-- ==== Sys2Proof/Word.lean ====
section
/-! DEFINITION. The bit-vector types of the 6140: bytes of its ports, encoder counts, 16-bit checks. -/

namespace Sys2Proof

/-- One byte of a frame, a lane port message or an imprint (R169). -/
abbrev Byte := BitVec 8

/-- An encoder count: 32 bits, running freely and wrapping (R2). -/
abbrev Count := BitVec 32

/-- A 16-bit check value: frame check, running check of a load, imprint check code (R169). -/
abbrev Check := BitVec 16

end Sys2Proof
end

