-- ==== Sys2Proof/Config.lean ====
section
/-! DEFINITION. The constants the manual fixes for the part, the values State.reset names where the
manual gives none, and the one free value of the model. -/

namespace Sys2Proof.Config

/-- Top of available (R74). -/
def maxAvailable : Nat := 999999999
/-- Top of ascending (R74). -/
def maxAscending : Nat := 999999999999
/-- Top of the piece count (R74). -/
def maxPieceCount : Nat := 4294967295
/-- Top of the refills total (R74). -/
def maxRefillsTotal : Nat := 999999999999999
/-- The last passage number that can be used (R85). -/
def lastPassage : Nat := 4294967295
/-- The last journal number; when it has been placed the journal is closed (R162). -/
def lastJournal : Nat := 4294967295
/-- Greatest amount of a lot, a refill or an ask (R119, R131, R137, R175). -/
def maxLot : Nat := 99999999
/-- Greatest postage (R65). -/
def maxPostage : Nat := 999999
/-- Greatest weight of a piece in grams (R32). -/
def maxWeight : Nat := 20000
/-- Capacity of the journal ring (R162). -/
def ringSize : Nat := 1024
/-- Belt travel after which an open feed gate is a feed miss (R9). -/
def feedMissTravel : Nat := 4000
/-- Top of the feed-miss, unbound bar and diverted counters (R9, R19, R37). -/
def counterTop : Nat := 65535
/-- Top of the check error counter (R111). -/
def checkErrorTop : Nat := 255
/-- Top of the franked counter (R93). -/
def frankedTop : Nat := 4294967295
/-- The hold timer of the stop button in ms (R156). -/
def holdSpan : Nat := 4000
/-- The heat timer in ms (R160). -/
def heatSpan : Nat := 2000
/-- The query timer in ms (R134). -/
def querySpan : Nat := 500
/-- Queries sent before PASS UNRESOLVED (R134). -/
def queryLimit : Nat := 20
/-- Drift of the zero, in tenths of a gram, beyond which SCALE ZERO is current (R35). -/
def zeroDrift : Nat := 200

/-- The station number State.reset shows: the strap pins are an input and the manual names none.
DESIGN CHOICE, unsafe (log 3). -/
def resetStrap : Nat := 1

/-- FREE VALUE (log 10): what available becomes, before the bound of `overdrawn`, when a DEBIT's postage
exceeds available. The manual states no result there. Applied to the counter `Funds.freeDraws`. -/
opaque freeAvailable : Nat → Nat

/-- The free value kept within the one limit the manual sets: a DEBIT never raises available (R81). -/
def overdrawn (draw available : Nat) : Nat := min (freeAvailable draw) available

end Sys2Proof.Config
end

