-- ==== Sys2Proof/Syntax.lean ====
section
/-! DEFINITION. The commands of the block, one constructor for each row of spec/opcode_table.json, and
the operands they carry. A frame's operands are the values its bytes spell (R169, R171), in range or
not; what is done with a value out of range belongs to its meaning. -/

namespace Sys2Proof

/-- A date as three numbers (R169). It may be no date of the calendar (`Date.valid` says). -/
structure Date where
  year : Nat
  month : Nat
  day : Nat
deriving DecidableEq, Repr

/-- A time of day as three numbers (R169). -/
structure TimeOfDay where
  hour : Nat
  minute : Nat
  second : Nat
deriving DecidableEq, Repr

/-- A step of the conveyor encoder (R2). -/
inductive Travel where
  | forward
  | reverse
deriving DecidableEq, Repr

/-- The two downstream photo-eyes (R15). -/
inductive DownEye where
  | print
  | exit
deriving DecidableEq, Repr

/-- What the surroundings supply at a power-up or a warm reset: the strap pins (R123), whether every
record of the store passes its check and whether the start-up write reads back as written (R77, R92),
the stop button and the head temperature input, which are read afresh (R161). -/
structure StartInputs where
  strap : Nat
  checksPass : Bool
  writeGood : Bool
  button : Bool
  hot : Bool
deriving DecidableEq, Repr

/-- One segment of a RATE LOAD, field by field as its bytes give them (R171). A price FFFFFFh is NOT
OFFERED; the class code bytes of a surcharge are all eight. -/
inductive Segment where
  | classHeader (code maxWeight maxLength maxWidth maxThickness : Nat)
  | breakRow (limit : Nat) (prices : List Nat)
  | surcharge (classCount : Nat) (codes : List Nat) (kind threshold fixed perStep step : Nat)
deriving DecidableEq, Repr

/-- The 28 fields of a SETTLE record (R172). -/
structure SettleRecord where
  p0 : Nat
  p1 : Nat
  bar : Nat
  decision : Nat
  arm : Nat
  print : Nat
  exit : Nat
  window : Nat
  tolerance : Nat
  settleDistance : Nat
  gap : Nat
  notePresent : Bool
  noteCount : Nat
  noteClass : Nat
  noteZone : Nat
  noteServices : List Nat
  feedFloor : Nat
  referenceZero : Nat
  minSamples : Nat
  steadiness : Nat
  lowMark : Nat
  keepAmount : Nat
  askAmount : Nat
  askTimeout : Nat
  lineId : Nat
  idleSpan : Nat
  heatFactor : Nat
  creditFactor : Nat
deriving DecidableEq, Repr

/-- The payload of a HOLDINGS frame (R171): the lane state as its 3-bit code. -/
structure HoldingsFrame where
  fresh : Bool
  lane : Nat
  available : Nat
  reserved : Nat
  outbound : Nat
  currentGen : Nat
  pendingGen : Nat
  askRemaining : Nat
  date : Date
deriving DecidableEq, Repr

/-- A frame received whole that no block takes (R119): its source, 15 for the console, and whether it carried
the station's own number as destination. -/
structure Disregarded where
  src : Nat
  addressed : Bool
deriving DecidableEq, Repr

/-- The commands. `addressed` says whether a console frame that may be broadcast carried the station's own
number as destination. `src` is the source of a station's frame (R110). -/
inductive Instr where
  | powerUp (kept : Bool) (inputs : StartInputs)
  | warmReset (readBack : Bool) (inputs : StartInputs)
  | encoderStep (dir : Travel)
  | infeedLeadEdge
  | infeedTrailEdge
  | downstreamLeadEdge (eye : DownEye)
  | downstreamTrailEdge (eye : DownEye)
  | feedGateOpen
  | feedMiss
  | graceEnd
  | platformStartEvent (tag : Nat)
  | windowOpening (tag : Nat)
  | platformEndEvent (tag : Nat)
  | platformLeaving (tag : Nat)
  | scaleSample (value : Nat)
  | barEvent (tag : Nat)
  | barReading (width thickness : Nat)
  | barNoRead
  | dateSampleAnswer (tag : Nat)
  | bankChoice
  | reservationRequest
  | decisionEvent (tag : Nat)
  | divertHoldEnd
  | armEvent (tag : Nat)
  | endOfPrintWindow (tag : Nat)
  | jam (eye : DownEye)
  | noteArrival (classCode zone : Nat) (services : List Nat)
  | headReady
  | headNotReady
  | printDone (piece : Nat)
  | printFault (piece cause : Nat)
  | stopButtonPress
  | stopButtonRelease
  | holdTimerExpiry
  | headTemperatureRise
  | headTemperatureFall
  | heatTimerExpiry
  | debitComplete (readBack : Bool)
  | lotInComplete (readBack : Bool)
  | refillComplete (readBack : Bool)
  | lotOutStartComplete (readBack : Bool)
  | lotOutEndComplete (readBack : Bool)
  | settleNotTakenComplete (readBack : Bool)
  | runMarkComplete (readBack : Bool)
  | journalAppendComplete (readBack : Bool)
  | rateBegin (addressed : Bool) (generation : Nat) (effective : Date) (rounding zones : Nat)
  | rateLoad (addressed : Bool) (generation index : Nat) (segment : Segment)
  | rateFinish (addressed : Bool) (generation count check : Nat)
  | rateDrop (addressed : Bool) (generation : Nat)
  | bankSwitchEntryJoin
  | settle (r : SettleRecord)
  | refill (serial amount : Nat)
  | dateSet (addressed : Bool) (date : Date) (time : TimeOfDay)
  | dateSetEntryJoin
  | postdate (addressed : Bool) (offset : Nat)
  | lineRun (addressed : Bool)
  | lineStop (addressed : Bool)
  | resume
  | throttle (addressed : Bool) (factor : Nat)
  | poll (page : Nat)
  | clear (faults counters : Nat)
  | journalRead (n : Nat)
  | remit (dest amount : Nat)
  | holdingsReceived (src : Nat) (h : HoldingsFrame)
  | creditAskReceived (src amount : Nat)
  | lotPassReceived (src passage amount purpose : Nat)
  | lotPassHeard (src dest passage amount purpose : Nat) (ackSeen : Bool)
  | passQueryReceived (src passage : Nat)
  | passAnswerReceived (src passage outcome : Nat)
  | dayTurnReceived (src : Nat) (date : Date)
  | hushReceived (src : Nat)
  | holdReceived (src : Nat)
  | wakeReceived (src : Nat)
  | frameDamaged
  | gapExpiry
  | arbitrationLoss
  | lotPassTurn
  | frameSent
  | lotPassSent (ackSeen : Bool)
  | passQuerySent
  | hushSent
  | holdSent
  | statusSent
  | journalSent
  | yieldTimeout
  | linkStuck
  | linkStuckEnd
  | askDeadline
  | backOffEnd
  | mirrorTimerExpiry (station : Nat)
  | queryTimerExpiry
  | clockUpdateStart
  | clockUpdateComplete
  | idleTimerExpiry
  | objectionWindowEnd
  | powerLoss
  | defer
  | frameDisregarded (frame : Disregarded)
deriving DecidableEq, Repr

end Sys2Proof
end

