-- ==== Sys2Proof/Decode.lean ====
section
/-! DEFINITION. The table spec/opcode_table.json gives no row any bits, so no word spells a command.
Byte strings heard on the ports are turned into commands in Machine/Receive.lean. -/

namespace Sys2Proof

/-- The command a word spells by the bits of spec/opcode_table.json: none, since no row has bits. -/
def decodeTableWord (_nbits _w : Nat) : Option Instr := none

end Sys2Proof
end

