-- ==== Sys2Proof/Machine/State.lean ====
section
/-! DEFINITION. The state of one 6140 as plain data, block by block as 00_scope.md 1.3 divides the part,
the outcomes it can stop with, and the state after reset. -/

namespace Sys2Proof.Machine

/-- Why a step can stop with a fault: never. Every fault the manual names is a sticky fault or a current
condition, which is state (R166); no event stops the part. -/
inductive Fault
deriving DecidableEq, Repr

/-- Why a step can be refused. -/
inductive Refusal where
  /-- Raised by an arm of exec that has no meaning yet (safe); no arm of this model raises it. -/
  | notModelled (mnemonic : String)
deriving DecidableEq, Repr

/-! ### Names the manual gives -/

/-- Lane states (10 section 10.2). -/
inductive Lane where
  | offLine
  | ready
  | running
  | draining
  | quiet
  | stopped
deriving DecidableEq, Repr

/-- The three photo-eyes (R3). -/
inductive Eye where
  | infeed
  | print
  | exit
deriving DecidableEq, Repr

/-- A change seen by an eye (R3). -/
inductive Edge where
  | lead
  | trail
deriving DecidableEq, Repr

/-- Purpose of a lot (R119). -/
inductive Purpose where
  | ask
  | remit
deriving DecidableEq, Repr

/-- Outcome of a passage (R75). -/
inductive PassOutcome where
  | taken
  | notTaken
deriving DecidableEq, Repr

/-- Sub-reasons of WEIGH FAIL (01 section 1.7). -/
inductive WeighSub where
  | zero
  | overweight
  | unsteady
  | shortWindow
  | overlong
deriving DecidableEq, Repr

/-- Divert reasons (01 section 1.7). -/
inductive DivertReason where
  | noNote
  | weighFail (sub : WeighSub)
  | noDimensions
  | noRates
  | noClass
  | overLimit
  | badZone
  | notOffered
  | overMaximum
  | clock
  | notRated
  | noFunds
  | headFault
  | drain
  | datePassed
deriving DecidableEq, Repr

/-- Causes a head reports with PRINT FAULT (R104). -/
inductive HeadCause where
  | inkOut
  | headJam
  | overTemperature
deriving DecidableEq, Repr

/-- Causes of the HEAD FAULT sticky fault (R105, R170). -/
inductive HeadFaultCause where
  | head (c : HeadCause)
  | noAnswer
  | notReady
deriving DecidableEq, Repr

/-- Causes of PASSED UNPRINTED (R107). -/
inductive PassCause where
  | headFault
  | clock
  | datePassed
  | headNotReady
  | full
  | store
deriving DecidableEq, Repr

/-- Causes of SPOILED (R107). -/
inductive SpoilCause where
  | clock
  | datePassed
  | notReady
  | noPrint
  | printFault (c : HeadCause)
  | headFault
  | noAnswer
  | stopped
deriving DecidableEq, Repr

/-- What a record's reason field holds (01 section 1.5). -/
inductive Reason where
  | divert (r : DivertReason)
  | passedUnprinted (c : PassCause)
  | spoiled (c : SpoilCause)
deriving DecidableEq, Repr

/-- Load failure reasons (03 section 3.4, R170). -/
inductive LoadReason where
  | field
  | loadingBusy
  | pendingHeld
  | noFreeBank
  | generation
  | clock
  | effectiveDate
  | notLoading
  | segmentMissing
  | tooMany
  | duplicateClass
  | order
  | check
  | incomplete
  | journal
  | inUse
  | isProtected
  | noSuchBank
deriving DecidableEq, Repr

/-- Reasons a claim is refused at its grant (05 section 5.5, R162). -/
inductive Refused where
  | store
  | full
  | stale
  | capacity
  | serial
  | busy
  | passagesSpent
  | short
  | noPassage
deriving DecidableEq, Repr

/-- Reasons of REFILL REFUSED (R137, R170). -/
inductive RefillReason where
  | state
  | field
  | serial
  | capacity
  | store
  | full
deriving DecidableEq, Repr

/-! ### Lane interface and track unit -/

/-- The capture latch of one eye with its last stamped count (R3). -/
structure EyeLatch where
  edge : Option Edge
  stamp : Option Count
deriving DecidableEq, Repr

/-- The lane interface (R2, R3). -/
structure Io where
  encoder : Count
  infeed : EyeLatch
  print : EyeLatch
  exit : EyeLatch
deriving DecidableEq, Repr

/-- A note of the address reader (01 section 1.3) with its default mark (R6). -/
structure Note where
  classCode : Nat
  zone : Nat
  services : List Nat
  isDefault : Bool
deriving DecidableEq, Repr

/-- States of a piece record (01 section 1.5). -/
inductive PieceState where
  | entering
  | measuring
  | readyToRate
  | rating
  | ratedUnfunded
  | rated
  | accepted
  | armed
  | debited
  | printing
  | printed
  | failed
deriving DecidableEq, Repr

/-- Position events of a record already taken (R2, R14). -/
structure Marks where
  platformStart : Bool
  platformEnd : Bool
  bar : Bool
  decision : Bool
  arm : Bool
  windowEnd : Bool
deriving DecidableEq, Repr

/-- The imprint (R99), held with its record from the debit to the release (R93). -/
structure Imprint where
  lineId : Nat
  station : Nat
  piece : Nat
  printed : Option Date
  postage : Option Nat
  classCode : Nat
  zone : Nat
  weight : Option Nat
  generation : Option Nat
  check : Check
deriving DecidableEq, Repr

/-- A piece record (01 section 1.5). Lengths are in twentieths of a millimetre (log 6), widths and
thicknesses in tenths. -/
structure Piece where
  tag : Nat
  lead : Count
  trail : Option Count
  length : Option Nat
  note : Option Note
  weight : Option Nat
  width : Option Nat
  thickness : Option Nat
  sampled : Option Date
  printed : Option Date
  generation : Option Nat
  postage : Option Nat
  reserved : Bool
  pieceNumber : Option Nat
  state : PieceState
  reason : Option Reason
  imprint : Option Imprint
  marks : Marks
deriving DecidableEq, Repr

/-- An expectation of a downstream eye (01 section 1.6). -/
structure Expectation where
  tag : Nat
  count : Count
deriving DecidableEq, Repr

/-- A divert hold (R19): waiting on the next infeed trail edge for the diverted piece `tag`, or ending
when the belt reaches a count. -/
inductive DivertHold where
  | onTrail (tag : Nat)
  | untilCount (count : Count)
deriving DecidableEq, Repr

/-- The track unit (chapter 1). -/
structure Track where
  records : List Piece
  notes : List Note
  gateOpen : Bool
  openingCount : Option Count
  noteWaited : Bool
  grace : Option Count
  lastAdmission : Option Count
  tagCounter : Nat
  printExpected : List Expectation
  exitExpected : List Expectation
  divertHold : Option DivertHold
  feedMisses : Nat
  diverted : Nat
deriving DecidableEq, Repr

/-! ### Weigh unit -/

/-- The four quantities of a weigh window (R29). -/
structure Window where
  sum : Nat
  least : Option Nat
  greatest : Option Nat
  count : Nat
deriving DecidableEq, Repr

/-- Weigh phases (02 section 2.2): `weighing` is OPEN with its window. -/
inductive Phase where
  | waiting
  | weighing (w : Window)
  | done
deriving DecidableEq, Repr

/-- An entry of the platform list (02 section 2.2). -/
structure PlatformEntry where
  tag : Nat
  lead : Count
  trail : Option Count
  phase : Phase
deriving DecidableEq, Repr

/-- The weigh unit (chapter 2). -/
structure Weigh where
  zero : Option (List Nat)
  platform : List PlatformEntry
  barQueue : List Nat
  scaleZero : Bool
  unboundBar : Nat
deriving DecidableEq, Repr

/-! ### Rate memory and rating engine -/

/-- A break (R42): a price is none for NOT OFFERED. -/
structure Break where
  limit : Nat
  prices : List (Option Nat)
deriving DecidableEq, Repr

/-- A class of a bank (R41). -/
structure RateClass where
  code : Nat
  maxWeight : Nat
  maxLength : Nat
  maxWidth : Nat
  maxThickness : Nat
  breaks : List Break
deriving DecidableEq, Repr

/-- The condition of a surcharge (R43). -/
inductive Condition where
  | service (code : Nat)
  | thicknessOver (threshold : Nat)
  | lengthOver (threshold : Nat)
  | weightOver (threshold : Nat)
  | zoneRange (low high : Nat)
deriving DecidableEq, Repr

/-- A surcharge (R43); the class set is none for ALL. -/
structure Surcharge where
  classSet : Option (List Nat)
  condition : Condition
  fixed : Nat
  perStep : Nat
  step : Nat
deriving DecidableEq, Repr

/-- The values of a load in progress (R45). -/
structure LoadProgress where
  taken : Nat
  check : Check
  broken : Option LoadReason
deriving DecidableEq, Repr

/-- States of a bank (03 section 3.3). -/
inductive BankState where
  | free
  | loading (p : LoadProgress)
  | pending
  | current
  | retiring
deriving DecidableEq, Repr

/-- A rate bank (R40 to R43) with its reference mark (R53). -/
structure Bank where
  state : BankState
  generation : Option Nat
  effective : Option Date
  rounding : Nat
  zones : Nat
  classes : List RateClass
  surcharges : List Surcharge
  named : Bool
deriving DecidableEq, Repr

/-- What the engine knows of the piece being rated (R59). -/
structure RatingFacts where
  classCode : Nat
  zone : Nat
  services : List Nat
  weight : Nat
  length : Nat
  width : Nat
  thickness : Nat
deriving DecidableEq, Repr

/-- Where a rating stands: SAMPLING; PRICING before stage 2; PRICING before stage 9. -/
inductive Stage where
  | sampling
  | choosing
  | reserving
deriving DecidableEq, Repr

/-- The working values of a rating (R59). -/
structure Rating where
  tag : Nat
  stage : Stage
  facts : RatingFacts
  sampled : Option Date
  printed : Option Date
  generation : Option Nat
  classFound : Option Nat
  sum : Nat
  postage : Nat
deriving DecidableEq, Repr

/-- The rating engine (chapter 4): IDLE when it holds no rating. -/
structure Engine where
  queue : List Nat
  rating : Option Rating
deriving DecidableEq, Repr

/-! ### Journal entries and funds store -/

/-- The facts of a piece an entry or a DEBIT claim carries, each if held (R81, R163). -/
structure PieceFacts where
  postage : Option Nat
  weight : Option Nat
  note : Option Note
  generation : Option Nat
  printed : Option Date
deriving DecidableEq, Repr

/-- The body of a journal entry, by kind (R163). -/
inductive Entry where
  | committed (tag piece : Nat) (facts : PieceFacts)
  | spoiled (tag : Nat) (piece : Option Nat) (cause : SpoilCause) (facts : PieceFacts)
  | passedUnprinted (tag : Nat) (cause : PassCause) (facts : PieceFacts)
  | diverted (tag : Nat) (reason : DivertReason) (facts : PieceFacts)
  | abandoned (tag : Nat) (facts : PieceFacts)
  | unconfirmed (piece postage journal : Option Nat) (debits : Nat)
  | refill (serial amount : Nat)
  | lotIn (partner passage amount : Nat)
  | lotOut (partner passage amount : Nat) (purpose : Purpose)
  | lotReturned (partner passage amount : Nat) (purpose : Purpose)
  | bankSwitch (newGen : Nat) (replaced : Option Nat) (date : Date)
  | dateSet (newDate : Date) (newTime : TimeOfDay) (replaced : Date)
deriving DecidableEq, Repr

/-- An entry placed in the ring, with its journal number (R162). -/
structure Placed where
  number : Nat
  entry : Entry
deriving DecidableEq, Repr

/-- An outbound passage (R74). -/
structure Passage where
  number : Nat
  dest : Nat
  amount : Nat
  purpose : Purpose
deriving DecidableEq, Repr

/-- A settled entry (R75): number 0 with no outcome means none. -/
structure Settled where
  number : Nat
  outcome : Option PassOutcome
deriving DecidableEq, Repr

/-- The last-commit record (R76). -/
structure LastCommit where
  piece : Nat
  postage : Nat
  journal : Nat
deriving DecidableEq, Repr

/-- The non-volatile funds store: the funds record (R74), the settled-passage table keyed by sender in
rising order, a sender not listed standing at (0, none) (R75), the last-commit record (R76), the
journal ring oldest first and the next journal number (R162). -/
structure Store where
  available : Nat
  ascending : Nat
  pieceCount : Nat
  refillSerial : Nat
  refillsTotal : Nat
  nextPassage : Nat
  outbound : Option Passage
  runMark : Option Nat
  settled : List (Nat × Settled)
  lastCommit : Option LastCommit
  ring : List Placed
  nextJournal : Nat
deriving DecidableEq, Repr

/-- A claim made to the arbiter (05 sections 5.4, 5.5). -/
inductive Claim where
  | lotIn (sender passage amount : Nat)
  | refill (serial amount : Nat)
  | debit (tag postage : Nat) (facts : PieceFacts)
  | runMark (set : Bool)
  | lotOutStart (dest amount : Nat) (purpose : Purpose)
  | lotOutEnd (passage : Nat) (outcome : PassOutcome)
  | settleNotTaken (sender passage : Nat)
  | journalAppend
deriving DecidableEq, Repr

/-- The arbiter (R79): the write in progress and the claims waiting, by class. -/
structure Arbiter where
  writing : Option Claim
  link : Option Claim
  print : List Claim
  credit : List Claim
  append : Bool
deriving DecidableEq, Repr

/-- A block whose journal offer was refused and waits (R89). -/
inductive Waiter where
  | bankSwitch
  | dateSet
deriving DecidableEq, Repr

/-- The funds store with its volatile parts (chapters 4 and 5). `freeDraws` is the model's own counter
of free values drawn (log 10). -/
structure Funds where
  store : Store
  storeFault : Bool
  reserved : Nat
  unfunded : List Nat
  arbiter : Arbiter
  queue : List Entry
  waiters : List Waiter
  freeDraws : Nat
deriving DecidableEq, Repr

/-- Rate memory (chapter 3). -/
structure Rate where
  bankA : Bank
  bankB : Bank
  highestHeard : Option Nat
  ratesBehind : Bool
  waitingSwitch : Option Entry
deriving DecidableEq, Repr

/-! ### Print path -/

/-- A message to the head (06 section 6.1); ABORT of 0 is for every imprint. -/
inductive HeadMessage where
  | imprint (i : Imprint)
  | abort (piece : Nat)
deriving DecidableEq, Repr

/-- An entry of the armed list (R93). -/
structure Armed where
  tag : Nat
  postage : Nat
  facts : PieceFacts
  printEvent : Option Count
  provisional : Option SpoilCause
deriving DecidableEq, Repr

/-- An entry of the printing list (R93). -/
structure Printing where
  piece : Nat
  tag : Nat
deriving DecidableEq, Repr

/-- The print path (chapter 6). `headOut` is what has been sent on the head link since the reset. -/
structure Print where
  headReady : Bool
  armed : List Armed
  printing : List Printing
  headFault : Bool
  franked : Nat
  headOut : List HeadMessage
deriving DecidableEq, Repr

/-! ### Line link engine -/

/-- What a station's frame says (R119, R171). -/
inductive Msg where
  | passAnswer (passage : Nat) (outcome : PassOutcome)
  | dayTurn (date : Date)
  | hold
  | wake
  | creditAsk (amount : Nat)
  | lotPass (passage amount : Nat) (purpose : Purpose)
  | passQuery (passage : Nat)
  | holdings (h : HoldingsFrame)
  | hush
  | status (page : Nat) (payload : List Byte)
  | journal (n : Nat) (oldest newest : Option Nat) (entries : List Placed)
deriving DecidableEq, Repr

/-- How far a LOT PASS in the passage slot has come (R118): not yet begun, its LOT OUT START claimed, or
begun with its content known. -/
inductive LotStage where
  | waiting
  | claimed
  | begun (dest passage amount : Nat)
deriving DecidableEq, Repr

/-- A request held in a transmit slot (R113). -/
inductive Req where
  | hold
  | wake
  | dayTurn (date : Date)
  | passAnswer (dest passage : Nat) (outcome : PassOutcome)
  | lotPass (purpose : Purpose) (stage : LotStage)
  | passQuery (dest passage : Nat)
  | creditAsk
  | status (page : Nat)
  | journal (n : Nat)
  | holdings (fresh : Bool)
  | hush
deriving DecidableEq, Repr

/-- A transmit slot (R110, R113): the request, the content once fixed, and the change made during an
attempt, which takes effect if the attempt is cut off (`some none` is a withdrawal). -/
structure Slot where
  req : Option Req
  fixed : Option Msg
  later : Option (Option Req)
deriving DecidableEq, Repr

/-- The nine slots (R113). -/
inductive SlotId where
  | hold
  | wake
  | dayTurn
  | passAnswer
  | passage
  | creditAsk
  | reply
  | holdings
  | hush
deriving DecidableEq, Repr

/-- The transmit slots (R113). -/
structure Slots where
  hold : Slot
  wake : Slot
  dayTurn : Slot
  passAnswer : Slot
  passage : Slot
  creditAsk : Slot
  reply : Slot
  holdings : Slot
  hush : Slot
deriving DecidableEq, Repr

/-- Frame classes (R113). -/
inductive FrameClass where
  | urgent
  | credit
  | routine
deriving DecidableEq, Repr

/-- An attempt to send (R114): the slot, the destination, the content, and the gap it waited. -/
structure Attempt where
  slot : SlotId
  dest : Nat
  msg : Msg
  gap : Nat
deriving DecidableEq, Repr

/-- The acknowledge field of the last addressed frame (R112, R120): none yet, waiting on a claim, driven
or left released. -/
inductive Ack where
  | none
  | pending
  | driven
  | released
deriving DecidableEq, Repr

/-- The line link engine (chapter 7). -/
structure Link where
  station : Nat
  mute : Bool
  duplicate : Bool
  stuck : Bool
  dispatchOpen : Bool
  slots : Slots
  attempt : Option Attempt
  report : Option Attempt
  yieldUrgent : Bool
  yieldCredit : Bool
  yieldRoutine : Bool
  checkErrors : Nat
  ack : Ack
deriving DecidableEq, Repr

/-! ### Credit unit -/

/-- An open ask (R127): what remains, and the span of its deadline in ms. -/
structure Ask where
  remaining : Nat
  deadline : Nat
deriving DecidableEq, Repr

/-- A mirror entry (R129): what remains, and the span of its timer in ms. -/
structure Mirrored where
  remaining : Nat
  timer : Nat
deriving DecidableEq, Repr

/-- The query state (R134): the timer's span in ms while it runs, and the count. -/
structure Query where
  timer : Option Nat
  count : Nat
deriving DecidableEq, Repr

/-- A query in hand (R135). -/
structure InHand where
  sender : Nat
  passage : Nat
deriving DecidableEq, Repr

/-- A remit in progress (R138); what remains is none for ALL. -/
structure Remit where
  dest : Nat
  remaining : Option Nat
deriving DecidableEq, Repr

/-- The credit unit (chapter 8); roster and mirror are keyed by station in rising order. -/
structure Credit where
  ask : Option Ask
  backOff : Option Nat
  mirror : List (Nat × Mirrored)
  roster : List (Nat × HoldingsFrame)
  query : Option Query
  inHand : Option InHand
  remit : Option Remit
  creditShort : Bool
  passUnresolved : Bool
deriving DecidableEq, Repr

/-! ### Date clock, pacing unit, status block -/

/-- The outage latch (R149). -/
inductive Latch where
  | kept
  | lost
deriving DecidableEq, Repr

/-- A request held back by an update (R141). -/
inductive Held where
  | dayTurn (date : Date)
  | postdate (offset : Nat)
deriving DecidableEq, Repr

/-- The date clock (chapter 9). -/
structure Clock where
  date : Date
  time : TimeOfDay
  invalid : Bool
  latch : Latch
  updating : Bool
  postdate : Nat
  disagree : Bool
  heardTurn : Option Date
  held : List Held
  latchReported : Bool
  waitingEntry : Option Entry
deriving DecidableEq, Repr

/-- The lane geometry (R1). -/
structure Geometry where
  p0 : Nat
  p1 : Nat
  bar : Nat
  decision : Nat
  arm : Nat
  print : Nat
  exit : Nat
  window : Nat
  tolerance : Nat
  settleDistance : Nat
  gap : Nat
deriving DecidableEq, Repr

/-- The settings of an accepted SETTLE (R151). -/
structure Settings where
  geometry : Geometry
  defaultNote : Option Note
  feedFloor : Nat
  referenceZero : Nat
  minSamples : Nat
  steadiness : Nat
  lowMark : Nat
  keepAmount : Nat
  askAmount : Nat
  askTimeout : Nat
  lineId : Nat
  idleSpan : Nat
  heatFactor : Nat
  creditFactor : Nat
deriving DecidableEq, Repr

/-- A running objection window (R158): its span in ms and whether a HOLD has been asked for in it. -/
structure ObjectionWindow where
  span : Nat
  holdAsked : Bool
deriving DecidableEq, Repr

/-- The pacing unit (chapter 10). A timer is the span it was started with while it runs. -/
structure Pacing where
  lane : Lane
  settings : Option Settings
  drainScale : Bool
  drainHead : Bool
  holdTimer : Option Nat
  heatTimer : Option Nat
  heatActive : Bool
  idleTimer : Option Nat
  window : Option ObjectionWindow
  consoleFactor : Nat
  button : Bool
  hot : Bool
deriving DecidableEq, Repr

/-- The sticky faults with their details, in the order of the table of R166. -/
inductive StickyFault where
  | storeFault
  | duplicateStation
  | ascendingFull
  | powerLossInRun
  | passUnresolved
  | queryStale (sender passage : Nat)
  | jam (eye : Eye) (tag : Nat)
  | strayPiece (eye : Eye)
  | headFault (piece : Nat) (cause : HeadFaultCause)
  | clockInvalid
  | clockDisagree (heard own : Date) (time : TimeOfDay)
  | scaleZero
  | linkStuck
  | journalWrap (number : Nat)
  | refillRefused (serial : Nat) (reason : RefillReason)
  | remitIncomplete (dest amount : Nat)
  | creditShort
  | loadFailed (reason : LoadReason)
  | settleRefused (field : Nat)
  | noteOverrun
  | linkCheck
deriving DecidableEq, Repr

/-- The status block (chapter 11): the faults held, in the table's order, and the read marker. -/
structure Status where
  faults : List StickyFault
  readMarker : Nat
deriving DecidableEq, Repr

/-- The whole part, with the queue of commands waiting. -/
structure State where
  pending : List Instr
  powered : Bool
  io : Io
  track : Track
  weigh : Weigh
  rate : Rate
  engine : Engine
  funds : Funds
  print : Print
  link : Link
  credit : Credit
  clock : Clock
  pacing : Pacing
  status : Status
deriving DecidableEq, Repr

/-! ### The blocks as a reset leaves them -/

/-- No edge captured (R3). -/
def EyeLatch.clear : EyeLatch := { edge := none, stamp := none }

/-- The lane interface after reset (R24). -/
def Io.afterReset : Io :=
  { encoder := 0, infeed := .clear, print := .clear, exit := .clear }

/-- The track unit after reset (R24). -/
def Track.afterReset : Track :=
  { records := [], notes := [], gateOpen := false, openingCount := none, noteWaited := false,
    grace := none, lastAdmission := none, tagCounter := 0, printExpected := [], exitExpected := [],
    divertHold := none, feedMisses := 0, diverted := 0 }

/-- The weigh unit after reset (R39). -/
def Weigh.afterReset : Weigh :=
  { zero := none, platform := [], barQueue := [], scaleZero := false, unboundBar := 0 }

/-- A FREE bank that has never held a tariff (R40). -/
def Bank.shipped : Bank :=
  { state := .free, generation := none, effective := none, rounding := 0, zones := 0, classes := [],
    surcharges := [], named := false }

/-- The rating engine after reset (R73). -/
def Engine.afterReset : Engine := { queue := [], rating := none }

/-- The funds store of a part as shipped (R74, R75, R76, R162). -/
def Store.shipped : Store :=
  { available := 0, ascending := 0, pieceCount := 0, refillSerial := 0, refillsTotal := 0,
    nextPassage := 1, outbound := none, runMark := none, settled := [], lastCommit := none,
    ring := [], nextJournal := 1 }

/-- A free arbiter with no claim waiting (R79). -/
def Arbiter.free : Arbiter :=
  { writing := none, link := none, print := [], credit := [], append := false }

/-- The funds store's volatile parts after reset, beside what the store keeps (R92). -/
def Funds.afterReset (store : Store) (draws : Nat) : Funds :=
  { store := store, storeFault := false, reserved := 0, unfunded := [], arbiter := .free, queue := [],
    waiters := [], freeDraws := draws }

/-- Rate memory's volatile parts after reset, beside the banks (R56). -/
def Rate.afterReset (a b : Bank) : Rate :=
  { bankA := a, bankB := b, highestHeard := none, ratesBehind := false, waitingSwitch := none }

/-- The print path after reset, before its ABORT (R93). -/
def Print.afterReset : Print :=
  { headReady := false, armed := [], printing := [], headFault := false, franked := 0, headOut := [] }

/-- An empty transmit slot. -/
def Slot.empty : Slot := { req := none, fixed := none, later := none }

/-- Every slot empty (R123). -/
def Slots.empty : Slots :=
  { hold := .empty, wake := .empty, dayTurn := .empty, passAnswer := .empty, passage := .empty,
    creditAsk := .empty, reply := .empty, holdings := .empty, hush := .empty }

/-- The engine after reset with its station number read; the dispatch is still closed (R123). -/
def Link.afterReset (strap : Nat) : Link :=
  { station := strap, mute := !(decide (1 ≤ strap) && decide (strap ≤ 14)), duplicate := false,
    stuck := false, dispatchOpen := false, slots := .empty, attempt := none, report := none,
    yieldUrgent := false, yieldCredit := false, yieldRoutine := false, checkErrors := 0, ack := .none }

/-- The credit unit after reset (R140). -/
def Credit.afterReset : Credit :=
  { ask := none, backOff := none, mirror := [], roster := [], query := none, inHand := none,
    remit := none, creditShort := false, passUnresolved := false }

/-- The date clock's volatile parts after either reset, beside what it keeps (R150). -/
def Clock.afterReset (c : Clock) : Clock :=
  { c with postdate := 0, disagree := false, heardTurn := none, held := [], waitingEntry := none }

/-- The pacing unit after reset, with the levels read afresh (R161). -/
def Pacing.afterReset (button hot : Bool) : Pacing :=
  { lane := .offLine, settings := none, drainScale := false, drainHead := false, holdTimer := none,
    heatTimer := none, heatActive := false, idleTimer := none, window := none, consoleFactor := 1,
    button := button, hot := hot }

/-- The status block after reset, before start-up raises what it finds (R166). -/
def Status.afterReset : Status := { faults := [], readMarker := 0 }

/-- A part as shipped, without core supply and with its battery dead: the state before the first
power-up. DESIGN CHOICE where the manual gives no value (log 3). -/
def State.shipped : State :=
  { pending := [], powered := false, io := .afterReset, track := .afterReset, weigh := .afterReset,
    rate := .afterReset .shipped .shipped, engine := .afterReset, funds := .afterReset .shipped 0,
    print := .afterReset, link := .afterReset Config.resetStrap, credit := .afterReset,
    clock :=
      { date := ⟨2000, 1, 1⟩, time := ⟨0, 0, 0⟩, invalid := true, latch := .lost, updating := false,
        postdate := 0, disagree := false, heardTurn := none, held := [], latchReported := false,
        waitingEntry := none },
    pacing := .afterReset false false, status := .afterReset }

/-- The machine right after reset: the first power-up of a part as shipped, its start-up processing
ended (R24, R39, R56, R73, R92, R93, R123, R140, R149, R161, R166). Its outage latch is LOST, so the
date is 2000-01-01 and CLOCK INVALID is current and held (R149); the ABORT of R93 has been sent and
the receive dispatch is open (R92). Log 3 names what the manual does not fix. -/
def State.reset : State :=
  { State.shipped with
    powered := true,
    print := { Print.afterReset with headOut := [.abort 0] },
    link := { Link.afterReset Config.resetStrap with dispatchOpen := true },
    status := { Status.afterReset with faults := [.clockInvalid] } }

end Sys2Proof.Machine
end

