-- ==== Sys2Proof/Machine/Calendar.lean ====
section
/-! DEFINITION. The calendar of the date clock (R141, R142): valid dates and times, the next day, the
order of dates, and the tick of the time of day. -/

namespace Sys2Proof

/-- A leap year of 2000..2099 (R142). -/
def leapYear (year : Nat) : Bool := year % 4 == 0

/-- Days of a month (R142); 0 for a number that is no month. -/
def daysIn (year month : Nat) : Nat :=
  match month with
  | 1 => 31
  | 2 => if leapYear year then 29 else 28
  | 3 => 31
  | 4 => 30
  | 5 => 31
  | 6 => 30
  | 7 => 31
  | 8 => 31
  | 9 => 30
  | 10 => 31
  | 11 => 30
  | 12 => 31
  | _ => 0

/-- A date of 2000-01-01..2099-12-31 (R141). -/
def Date.valid (d : Date) : Bool :=
  decide (2000 ≤ d.year) && decide (d.year ≤ 2099) && decide (1 ≤ d.day) &&
    decide (d.day ≤ daysIn d.year d.month)

/-- The next day of the calendar; none after 2099-12-31 (R142). -/
def Date.next (d : Date) : Option Date :=
  if d.day < daysIn d.year d.month then some { d with day := d.day + 1 }
  else if d.month < 12 then some { d with month := d.month + 1, day := 1 }
  else if d.year < 2099 then some ⟨d.year + 1, 1, 1⟩
  else none

/-- The date `n` days later, if the calendar reaches it (R60). -/
def Date.plus (d : Date) : Nat → Option Date
  | 0 => some d
  | n + 1 =>
    match d.next with
    | some e => e.plus n
    | none => none

/-- `a` is before `b`. -/
def Date.before (a b : Date) : Bool :=
  decide (a.year < b.year) ||
    (decide (a.year = b.year) &&
      (decide (a.month < b.month) || (decide (a.month = b.month) && decide (a.day < b.day))))

/-- `a` is at or after `b`. -/
def Date.atOrAfter (a b : Date) : Bool := !a.before b

/-- A time of 00:00:00..23:59:59 (R141). -/
def TimeOfDay.valid (t : TimeOfDay) : Bool :=
  decide (t.hour < 24) && decide (t.minute < 60) && decide (t.second < 60)

/-- Midnight. -/
def TimeOfDay.midnight : TimeOfDay := ⟨0, 0, 0⟩

/-- The last second of the day (R143). -/
def TimeOfDay.isLast (t : TimeOfDay) : Bool := decide (t = ⟨23, 59, 59⟩)

/-- One second later within the day (R141); the last second of the day passes to midnight. -/
def TimeOfDay.tick (t : TimeOfDay) : TimeOfDay :=
  if t.second < 59 then { t with second := t.second + 1 }
  else if t.minute < 59 then ⟨t.hour, t.minute + 1, 0⟩
  else if t.hour < 23 then ⟨t.hour + 1, 0, 0⟩
  else .midnight

/-- 23:58:00 or later (R144). -/
def TimeOfDay.nearMidnight (t : TimeOfDay) : Bool := decide (t.hour = 23) && decide (58 ≤ t.minute)

end Sys2Proof
end

