-- ==== Sys2Proof/Machine/Formats.lean ====
section
/-! DEFINITION. Byte forms of values, codes, checks, the imprint, journal entries and the frames a
station sends (R110, R169 to R171, R173, R174). -/

namespace Sys2Proof.Machine

/-! ### Numbers and bytes (R169) -/

/-- `v` in `n` bytes, most significant byte first. -/
def be : Nat → Nat → List Byte
  | 0, _ => []
  | n + 1, v => BitVec.ofNat 8 (v / 256 ^ n) :: be n v

/-- The number a byte string spells, most significant byte first. -/
def ofBytes (bs : List Byte) : Nat := bs.foldl (fun a b => a * 256 + b.toNat) 0

/-- A date in 3 bytes. -/
def dateBytes (d : Date) : List Byte := be 1 (d.year - 2000) ++ be 1 d.month ++ be 1 d.day

/-- A time of day in 3 bytes. -/
def timeBytes (t : TimeOfDay) : List Byte := be 1 t.hour ++ be 1 t.minute ++ be 1 t.second

/-- A number of `n` bytes whose absent form is 0. -/
def optBytes (n : Nat) (v : Option Nat) : List Byte := be n (v.getD 0)

/-- A postage in 3 bytes, FFFFFFh when absent. -/
def postageBytes (v : Option Nat) : List Byte := be 3 (v.getD 0xFFFFFF)

/-- A date whose absent form is 000000h. -/
def optDateBytes (d : Option Date) : List Byte :=
  match d with
  | some d => dateBytes d
  | none => be 3 0

/-! ### The check procedure (R169) -/

/-- One bit taken into a check: shift, and combine 8005h where the bit and the old top bit differ. -/
def checkBit (c : Check) (bit : Bool) : Check :=
  if bit = c.getLsbD 15 then c <<< 1 else (c <<< 1) ^^^ 0x8005#16

/-- One byte, most significant bit first. -/
def checkByte (c : Check) (b : Byte) : Check :=
  [7, 6, 5, 4, 3, 2, 1, 0].foldl (fun c i => checkBit c (b.getLsbD i)) c

/-- The check carried on over a byte string. -/
def checkBytes (c : Check) (bs : List Byte) : Check := bs.foldl checkByte c

/-! ### Codes (R170) -/

/-- Lane state codes. -/
def Lane.code : Lane → Nat
  | .offLine => 0
  | .ready => 1
  | .running => 2
  | .draining => 3
  | .quiet => 4
  | .stopped => 5

/-- Bank state codes. -/
def BankState.code : BankState → Nat
  | .free => 0
  | .loading _ => 1
  | .pending => 2
  | .current => 3
  | .retiring => 4

/-- Purpose codes. -/
def Purpose.code : Purpose → Nat
  | .ask => 1
  | .remit => 2

/-- The purpose a code names. -/
def Purpose.ofCode : Nat → Option Purpose
  | 1 => some .ask
  | 2 => some .remit
  | _ => none

/-- Passage outcome codes. -/
def PassOutcome.code : PassOutcome → Nat
  | .taken => 1
  | .notTaken => 2

/-- The outcome a code names. -/
def PassOutcome.ofCode : Nat → Option PassOutcome
  | 1 => some .taken
  | 2 => some .notTaken
  | _ => none

/-- Divert reason codes. -/
def DivertReason.code : DivertReason → Nat
  | .noNote => 1
  | .weighFail _ => 2
  | .noDimensions => 3
  | .noRates => 4
  | .noClass => 5
  | .overLimit => 6
  | .badZone => 7
  | .notOffered => 8
  | .overMaximum => 9
  | .clock => 10
  | .notRated => 11
  | .noFunds => 12
  | .headFault => 13
  | .drain => 14
  | .datePassed => 15

/-- Weigh sub-reason codes. -/
def WeighSub.code : WeighSub → Nat
  | .zero => 1
  | .overweight => 2
  | .unsteady => 3
  | .shortWindow => 4
  | .overlong => 5

/-- The sub-reason code of a divert reason, 0 for none. -/
def DivertReason.subCode : DivertReason → Nat
  | .weighFail sub => sub.code
  | _ => 0

/-- Codes of a head cause among the head fault causes (R170), and on the head link (R173). -/
def HeadCause.code : HeadCause → Nat
  | .inkOut => 1
  | .headJam => 2
  | .overTemperature => 3

/-- The head cause a code of PRINT FAULT names (R173, R175). -/
def HeadCause.ofCode : Nat → Option HeadCause
  | 1 => some .inkOut
  | 2 => some .headJam
  | 3 => some .overTemperature
  | _ => none

/-- Head fault cause codes. -/
def HeadFaultCause.code : HeadFaultCause → Nat
  | .head c => c.code
  | .noAnswer => 4
  | .notReady => 5

/-- Print path cause codes of PASSED UNPRINTED. -/
def PassCause.code : PassCause → Nat
  | .headFault => 1
  | .clock => 2
  | .datePassed => 3
  | .headNotReady => 4
  | .full => 5
  | .store => 6

/-- Print path cause codes of SPOILED. -/
def SpoilCause.code : SpoilCause → Nat
  | .headFault => 1
  | .clock => 2
  | .datePassed => 3
  | .notReady => 7
  | .noPrint => 8
  | .printFault .inkOut => 9
  | .printFault .headJam => 10
  | .printFault .overTemperature => 11
  | .noAnswer => 12
  | .stopped => 13

/-- Load failure reason codes, in the order of the table of 03 section 3.4. -/
def LoadReason.code : LoadReason → Nat
  | .field => 1
  | .loadingBusy => 2
  | .pendingHeld => 3
  | .noFreeBank => 4
  | .generation => 5
  | .clock => 6
  | .effectiveDate => 7
  | .notLoading => 8
  | .segmentMissing => 9
  | .tooMany => 10
  | .duplicateClass => 11
  | .order => 12
  | .check => 13
  | .incomplete => 14
  | .journal => 15
  | .inUse => 16
  | .isProtected => 17
  | .noSuchBank => 18

/-- Refill refusal reason codes. -/
def RefillReason.code : RefillReason → Nat
  | .state => 1
  | .field => 2
  | .serial => 3
  | .capacity => 4
  | .store => 5
  | .full => 6

/-- Eye codes. -/
def Eye.code : Eye → Nat
  | .infeed => 1
  | .print => 2
  | .exit => 3

/-- Journal entry kinds, in the order of the table of R163. -/
def Entry.kind : Entry → Nat
  | .committed .. => 1
  | .spoiled .. => 2
  | .passedUnprinted .. => 3
  | .diverted .. => 4
  | .abandoned .. => 5
  | .unconfirmed .. => 6
  | .refill .. => 7
  | .lotIn .. => 8
  | .lotOut .. => 9
  | .lotReturned .. => 10
  | .bankSwitch .. => 11
  | .dateSet .. => 12

/-! ### Imprint and head messages (R99, R173) -/

/-- The 19 bytes of the imprint before its check code. -/
def Imprint.covered (i : Imprint) : List Byte :=
  be 2 i.lineId ++ be 1 i.station ++ be 4 i.piece ++ optDateBytes i.printed ++
    postageBytes i.postage ++ be 1 i.classCode ++ be 1 i.zone ++ optBytes 2 i.weight ++
    optBytes 2 i.generation

/-- The imprint with its check code, which starts from the station number (R99, R169). -/
def Imprint.sealed (i : Imprint) : Imprint :=
  { i with check := checkBytes (BitVec.ofNat 16 i.station) i.covered }

/-- The 21 bytes of the imprint. -/
def Imprint.bytes (i : Imprint) : List Byte := i.covered ++ be 2 i.check.toNat

/-- A message to the head: code byte and fields. -/
def HeadMessage.bytes : HeadMessage → List Byte
  | .imprint i => 0x01#8 :: i.bytes
  | .abort piece => 0x02#8 :: be 4 piece

/-! ### Journal entries (R174) -/

/-- The note field of DIVERTED and ABANDONED: 0 none, 1 from the reader, 2 the default note. -/
def noteHeldCode (n : Option Note) : Nat :=
  match n with
  | none => 0
  | some n => if n.isDefault then 2 else 1

/-- The class code of the facts' note, 0 when no note is held. -/
def PieceFacts.classCode (f : PieceFacts) : Nat := (f.note.map Note.classCode).getD 0

/-- The zone of the facts' note, 0 when no note is held. -/
def PieceFacts.zone (f : PieceFacts) : Nat := (f.note.map Note.zone).getD 0

/-- The default mark of the facts' note. -/
def PieceFacts.defaultMark (f : PieceFacts) : Bool := (f.note.map Note.isDefault).getD false

/-- The 4-byte word of a lot entry: partner in bits 31..28, purpose in bit 27, amount in bits 26..0. -/
def lotWord (partner amount : Nat) (remit : Bool) : Nat :=
  partner * 2 ^ 28 + (if remit then 2 ^ 27 else 0) + amount

/-- An entry as the console reads it: its kind byte and the fields after it. -/
def Entry.bytes (e : Entry) : List Byte :=
  be 1 e.kind ++
    match e with
    | .committed tag piece f =>
      be 1 tag ++ be 4 piece ++ postageBytes f.postage ++ optBytes 2 f.weight ++ be 1 f.classCode ++
        be 1 f.zone ++ be 1 (if f.defaultMark then 1 else 0) ++ optBytes 2 f.generation ++
        optDateBytes f.printed
    | .spoiled tag piece cause f =>
      be 1 tag ++ optBytes 4 piece ++ be 1 cause.code ++ postageBytes f.postage ++ optBytes 2 f.weight ++
        be 1 f.classCode ++ be 1 f.zone ++ optBytes 2 f.generation ++ optDateBytes f.printed
    | .passedUnprinted tag cause f =>
      be 1 tag ++ be 1 cause.code ++ postageBytes f.postage ++ optBytes 2 f.weight ++ be 1 f.classCode ++
        be 1 f.zone ++ optBytes 2 f.generation ++ optDateBytes f.printed
    | .diverted tag reason f =>
      be 1 tag ++ be 1 reason.code ++ be 1 reason.subCode ++ be 1 (noteHeldCode f.note) ++
        optBytes 2 f.weight ++ be 1 f.classCode ++ be 1 f.zone ++ postageBytes f.postage ++
        optBytes 2 f.generation
    | .abandoned tag f =>
      be 1 tag ++ be 1 (noteHeldCode f.note) ++ optBytes 2 f.weight ++ be 1 f.classCode ++
        be 1 f.zone ++ postageBytes f.postage ++ optBytes 2 f.generation ++ optDateBytes f.printed
    | .unconfirmed piece postage journal debits =>
      optBytes 4 piece ++ postageBytes postage ++ optBytes 4 journal ++ be 4 debits
    | .refill serial amount => be 2 serial ++ be 4 amount
    | .lotIn partner passage amount => be 4 passage ++ be 4 (lotWord partner amount false)
    | .lotOut partner passage amount p => be 4 passage ++ be 4 (lotWord partner amount (p == .remit))
    | .lotReturned partner passage amount p =>
      be 4 passage ++ be 4 (lotWord partner amount (p == .remit))
    | .bankSwitch newGen replaced date => be 2 newGen ++ optBytes 2 replaced ++ dateBytes date
    | .dateSet newDate newTime replaced => dateBytes newDate ++ timeBytes newTime ++ dateBytes replaced

/-! ### Segments of a RATE LOAD (R171) -/

/-- A segment's bytes, from its kind byte to its last byte: what the running check covers (R169). -/
def segmentBytes : Segment → List Byte
  | .classHeader code w l wd t => be 1 1 ++ be 1 code ++ be 2 w ++ be 2 l ++ be 2 wd ++ be 2 t
  | .breakRow limit prices => be 1 2 ++ be 2 limit ++ (prices.map (be 3)).flatten
  | .surcharge n codes kind threshold fixed perStep step =>
    be 1 3 ++ be 1 n ++ (codes.map (be 1)).flatten ++ be 1 kind ++ be 2 threshold ++ be 3 fixed ++
      be 3 perStep ++ be 2 step

/-! ### Frames a station sends (R110, R171) -/

/-- Kind codes of the frames a station sends. -/
def Msg.kind : Msg → Nat
  | .passAnswer .. => 0x01
  | .dayTurn _ => 0x02
  | .hold => 0x03
  | .wake => 0x04
  | .creditAsk _ => 0x10
  | .lotPass .. => 0x11
  | .passQuery _ => 0x12
  | .holdings _ => 0x20
  | .hush => 0x21
  | .status .. => 0x22
  | .journal .. => 0x23

/-- The state byte of a HOLDINGS: bit 7 fresh, bits 2..0 lane state (R171). DESIGN CHOICE (log 51): bits 6..3 are
sent as 0. -/
def holdingsStateByte (h : HoldingsFrame) : Nat := (if h.fresh then 128 else 0) + h.lane

/-- The payload of a frame. -/
def Msg.payload : Msg → List Byte
  | .passAnswer passage outcome => be 4 passage ++ be 1 outcome.code
  | .dayTurn date => dateBytes date
  | .hold => []
  | .wake => []
  | .creditAsk amount => be 4 amount
  | .lotPass passage amount purpose => be 4 passage ++ be 4 amount ++ be 1 purpose.code
  | .passQuery passage => be 4 passage
  | .holdings h =>
    be 1 (holdingsStateByte h) ++ be 4 h.available ++ be 4 h.reserved ++ be 4 h.outbound ++
      be 2 h.currentGen ++ be 2 h.pendingGen ++ be 4 h.askRemaining ++ dateBytes h.date
  | .hush => []
  | .status _ payload => payload
  | .journal n oldest newest entries =>
    be 4 n ++ optBytes 4 oldest ++ optBytes 4 newest ++ (entries.map (fun e => e.entry.bytes)).flatten

/-- The start delimiter (R169). -/
def startDelimiter : Byte := 0xA5#8

/-- The bytes of a frame from its start delimiter to its check (R110). -/
def frameBytes (kind src dest : Nat) (payload : List Byte) : List Byte :=
  let covered := be 1 kind ++ be 1 src ++ be 1 dest ++ be 1 payload.length ++ payload
  startDelimiter :: covered ++ be 2 (checkBytes 0xFFFF#16 covered).toNat

/-- The bytes on the pair of a message sent by station `src` to `dest` (0 for a broadcast). -/
def Msg.wire (m : Msg) (src dest : Nat) : List Byte := frameBytes m.kind src dest m.payload

end Sys2Proof.Machine
end

