-- ==== Sys2Proof/Machine/Flags.lean ====
section
/-! DEFINITION. The sticky faults (R166): their order, raising, clearing (R168), and their mask (R170). -/

namespace Sys2Proof.Machine

/-- The order of a fault in the table of R166. -/
def StickyFault.order : StickyFault → Nat
  | .storeFault => 1
  | .duplicateStation => 2
  | .ascendingFull => 3
  | .powerLossInRun => 4
  | .passUnresolved => 5
  | .queryStale .. => 6
  | .jam .. => 7
  | .strayPiece _ => 8
  | .headFault .. => 9
  | .clockInvalid => 10
  | .clockDisagree .. => 11
  | .scaleZero => 12
  | .linkStuck => 13
  | .journalWrap _ => 14
  | .refillRefused .. => 15
  | .remitIncomplete .. => 16
  | .creditShort => 17
  | .loadFailed _ => 18
  | .settleRefused _ => 19
  | .noteOverrun => 20
  | .linkCheck => 21

/-- The two faults whose detail each raising replaces (R166). -/
def StickyFault.replaces : StickyFault → Bool
  | .loadFailed _ => true
  | .refillRefused .. => true
  | _ => false

/-- A fault raised among those held, which stand in the table's order: a fault of the same kind already
held keeps its detail, but for the two that replace it (R166). -/
def holdFault (f : StickyFault) : List StickyFault → List StickyFault
  | [] => [f]
  | g :: gs =>
    if f.order < g.order then f :: g :: gs
    else if f.order = g.order then (if f.replaces then f else g) :: gs
    else g :: holdFault f gs

/-- A fault of this order is held. -/
def Status.holds (st : Status) (order : Nat) : Bool := st.faults.any (fun f => f.order == order)

/-- The fault of an order, if held. -/
def Status.fault? (st : Status) (order : Nat) : Option StickyFault :=
  st.faults.find? (fun f => f.order == order)

/-- The status block with a fault raised. -/
def Status.raise (st : Status) (f : StickyFault) : Status :=
  { st with faults := holdFault f st.faults }

/-- The faults left by a CLEAR: bit n - 1 of the mask names the fault of order n (R168, R170). -/
def Status.clear (st : Status) (mask : Nat) : Status :=
  { st with faults := st.faults.filter (fun f => !mask.testBit (f.order - 1)) }

/-- The sticky fault mask of STATUS (R170). -/
def Status.mask (st : Status) : Nat := st.faults.foldl (fun m f => m ||| 2 ^ (f.order - 1)) 0

/-- The leading fault by its order, 0 for none (R166, R174). -/
def Status.leading (st : Status) : Nat :=
  match st.faults with
  | [] => 0
  | f :: _ => f.order

/-- The sticky fault `f` is raised (R166). -/
def State.raise (s : State) (f : StickyFault) : State := { s with status := s.status.raise f }

end Sys2Proof.Machine
end

