-- ==== Sys2Proof/Machine/Ops.lean ====
section
/-! DEFINITION. Shared operations: the belt, piece records, transmit slots, asking and lending, the
reserved tally, claims, lane state changes, drains and journal offers. -/

namespace Sys2Proof.Machine

/-! ### Commands -/

/-- A command answers a next state: its effect on a powered part, and no change without core supply. -/
def live (s : State) (f : State → State) : Host.Outcome State Fault Refusal :=
  .next (if s.powered then f s else s)

/-- The effect of a command whose enabling condition is `c`; without it nothing changes (log 2). -/
def State.onlyIf (s : State) (c : Bool) (f : State → State) : State := if c then f s else s

/-! ### One block of the state changed -/

/-- The lane interface changed. -/
def State.mapIo (s : State) (f : Io → Io) : State := { s with io := f s.io }
/-- The track unit changed. -/
def State.mapTrack (s : State) (f : Track → Track) : State := { s with track := f s.track }
/-- The weigh unit changed. -/
def State.mapWeigh (s : State) (f : Weigh → Weigh) : State := { s with weigh := f s.weigh }
/-- Rate memory changed. -/
def State.mapRate (s : State) (f : Rate → Rate) : State := { s with rate := f s.rate }
/-- The rating engine changed. -/
def State.mapEngine (s : State) (f : Engine → Engine) : State := { s with engine := f s.engine }
/-- The funds store changed. -/
def State.mapFunds (s : State) (f : Funds → Funds) : State := { s with funds := f s.funds }
/-- The print path changed. -/
def State.mapPrint (s : State) (f : Print → Print) : State := { s with print := f s.print }
/-- The line link engine changed. -/
def State.mapLink (s : State) (f : Link → Link) : State := { s with link := f s.link }
/-- The credit unit changed. -/
def State.mapCredit (s : State) (f : Credit → Credit) : State := { s with credit := f s.credit }
/-- The date clock changed. -/
def State.mapClock (s : State) (f : Clock → Clock) : State := { s with clock := f s.clock }
/-- The pacing unit changed. -/
def State.mapPacing (s : State) (f : Pacing → Pacing) : State := { s with pacing := f s.pacing }

/-! ### The belt (R2) -/

/-- Count `x` is reached at encoder count `c` (R2). -/
def reached (c x : Count) : Bool := decide ((c - x).toNat < 2 ^ 31)

/-- The belt passes `x` when it reaches `x + 1` (R2). -/
def passed (c x : Count) : Bool := reached c (x + 1)

/-- The count `n` counts of travel after `x`, modulo 2^32 (R2). -/
def after (x : Count) (n : Nat) : Count := x + BitVec.ofNat 32 n

/-- Distance from one count to a later one (1.5 of the scope). -/
def travel (a b : Count) : Nat := (b - a).toNat

/-- Two counts lie within a tolerance of each other, on either side (R15). -/
def near (a b : Count) (tol : Nat) : Bool := decide (travel a b ≤ tol) || decide (travel b a ≤ tol)

/-! ### Lane states -/

/-- RUNNING or DRAINING, in which the track unit acts on edges (R3). -/
def Lane.moving : Lane → Bool
  | .running => true
  | .draining => true
  | _ => false

/-- The conveyor drive of a lane state (table of 10.2). -/
def Lane.drive (l : Lane) : Bool := l.moving

/-- The quiet line of a lane state (table of 10.2). -/
def Lane.quietLine (l : Lane) : Bool := l == .quiet

/-- The lane states in which notes and empty-platform samples are taken (R5, R26). -/
def Lane.attends : Lane → Bool
  | .offLine => false
  | .stopped => false
  | _ => true

/-- The reader ready line (R5). -/
def State.readerReady (s : State) : Bool :=
  decide (s.track.notes.length < 4) && s.pacing.lane.attends

/-- The divert gate is in its divert position (R4, R19). -/
def State.diverting (s : State) : Bool := s.track.divertHold.isSome

/-- The credit factor is in force while the station's own ask is open (R160). -/
def State.throttleFactor (s : State) : Nat :=
  match s.pacing.settings with
  | none => s.pacing.consoleFactor
  | some g =>
    let heat := if s.pacing.heatActive then g.heatFactor else 1
    let credit := if s.credit.ask.isSome then g.creditFactor else 1
    max s.pacing.consoleFactor (max heat credit)

/-! ### Piece records (R10 to R13) -/

/-- The outcome of a record past the decision point: PASSED UNPRINTED or SPOILED (1.5). -/
def Piece.hasOutcome (p : Piece) : Bool :=
  match p.reason with
  | some (.passedUnprinted _) => true
  | some (.spoiled _) => true
  | _ => false

/-- A state before ACCEPTED, other than FAILED (R12). -/
def PieceState.unaccepted : PieceState → Bool
  | .entering => true
  | .measuring => true
  | .readyToRate => true
  | .rating => true
  | .ratedUnfunded => true
  | .rated => true
  | _ => false

/-- The record with a tag, if in the track queue (R12). -/
def Track.find (t : Track) (tag : Nat) : Option Piece := t.records.find? (fun p => p.tag == tag)

/-- Every record with the tag changed (R12, log 29). -/
def Track.update (t : Track) (tag : Nat) (f : Piece → Piece) : Track :=
  { t with records := t.records.map (fun p => if p.tag == tag then f p else p) }

/-- Fields are set on a record by tag (R12); a request for a record that has left is dropped. -/
def State.setRecord (s : State) (tag : Nat) (f : Piece → Piece) : State :=
  s.mapTrack (fun t => t.update tag f)

/-- A request to make a record FAILED (R12). -/
def State.failRecord (s : State) (tag : Nat) (r : DivertReason) : State :=
  s.setRecord tag (fun p =>
    if p.state.unaccepted then { p with state := .failed, reason := some (.divert r) } else p)

/-- What entries and claims carry of a record (R81, R163). -/
def Piece.facts (p : Piece) : PieceFacts :=
  { postage := p.postage, weight := p.weight, note := p.note, generation := p.generation,
    printed := p.printed }

/-- A MEASURING record with note, weight and dimensions all present (R13). -/
def Piece.complete (p : Piece) : Bool :=
  (p.state == .measuring) && p.note.isSome && p.weight.isSome && p.length.isSome && p.width.isSome &&
    p.thickness.isSome

/-- A record that has become complete passes to READY TO RATE and its tag joins the rating queue (R13). -/
def State.becomeReady (s : State) (tag : Nat) : State :=
  match s.track.find tag with
  | some p =>
    if p.complete then
      (s.setRecord tag (fun p => { p with state := .readyToRate })).mapEngine
        (fun e => { e with queue := e.queue ++ [tag] })
    else s
  | none => s

/-! ### Reservations and spendable funds (R67 to R69, R78) -/

/-- Available less reserved (R78). DESIGN CHOICE (log 44): 0 when the tally exceeds available, a state that R78 says
never arises and log 10 says can. -/
def Funds.spendable (f : Funds) : Nat := f.store.available - f.reserved

/-- The journal is closed once its last number has been placed (R162). -/
def Store.closed (st : Store) : Bool := decide (Config.lastJournal < st.nextJournal)

/-- The journal queue has room for an entry of the track (R89, R162). -/
def State.hasRoom (s : State) : Bool :=
  decide (s.funds.queue.length + s.track.records.length < 16) && !s.funds.storeFault &&
    !s.funds.store.closed

/-- The journal queue can take an entry of another block (R89). -/
def State.canTake (s : State) : Bool :=
  s.hasRoom && decide (s.funds.queue.length + s.track.records.length < 15)

/-- A reservation granted: the tally rises and the record is RATED (R67, R69). -/
def State.grantReservation (s : State) (tag postage : Nat) : State :=
  (s.mapFunds (fun f => { f with reserved := f.reserved + postage })).setRecord tag
    (fun p => { p with postage := some postage, reserved := true, state := .rated })

/-- One tag of the unfunded list judged in a retry (R69). -/
def State.retryOne (s : State) (tag : Nat) : State :=
  match s.track.find tag with
  | none => s
  | some p =>
    let postage := p.postage.getD 0
    if postage ≤ s.funds.spendable then
      (s.grantReservation tag postage).mapFunds (fun f => { f with unfunded := f.unfunded.erase tag })
    else s

/-- The retry of the unfunded list, oldest first (R69). -/
def State.retry (s : State) : State := s.funds.unfunded.foldl State.retryOne s

/-! ### Transmit slots (R113) -/

/-- One slot. -/
def Slots.get (t : Slots) : SlotId → Slot
  | .hold => t.hold
  | .wake => t.wake
  | .dayTurn => t.dayTurn
  | .passAnswer => t.passAnswer
  | .passage => t.passage
  | .creditAsk => t.creditAsk
  | .reply => t.reply
  | .holdings => t.holdings
  | .hush => t.hush

/-- One slot replaced. -/
def Slots.put (t : Slots) (i : SlotId) (x : Slot) : Slots :=
  match i with
  | .hold => { t with hold := x }
  | .wake => { t with wake := x }
  | .dayTurn => { t with dayTurn := x }
  | .passAnswer => { t with passAnswer := x }
  | .passage => { t with passage := x }
  | .creditAsk => { t with creditAsk := x }
  | .reply => { t with reply := x }
  | .holdings => { t with holdings := x }
  | .hush => { t with hush := x }

/-- The class of a slot (R113). -/
def SlotId.cls : SlotId → FrameClass
  | .hold => .urgent
  | .wake => .urgent
  | .dayTurn => .urgent
  | .passAnswer => .urgent
  | .passage => .credit
  | .creditAsk => .credit
  | .reply => .routine
  | .holdings => .routine
  | .hush => .routine

/-- The slot is occupied by a request. -/
def Link.full (l : Link) (i : SlotId) : Bool := (l.slots.get i).req.isSome

/-- The slot's frame is being sent. -/
def Link.sending (l : Link) (i : SlotId) : Bool :=
  match l.attempt with
  | some a => a.slot == i
  | none => false

/-- A slot holding a request whose content is not fixed. -/
def Slot.holding (r : Req) : Slot := { req := some r, fixed := none, later := none }

/-- A request placed in a slot, or replacing or merged with the one that waits; during an attempt the
change applies only if the attempt is cut off (R113). -/
def Link.request (l : Link) (i : SlotId) (r : Req) : Link :=
  if l.sending i then
    { l with slots := l.slots.put i { l.slots.get i with later := some (some r) } }
  else { l with slots := l.slots.put i (.holding r) }

/-- A withdrawal; during an attempt it takes effect only if the attempt is cut off (R113). -/
def Link.withdraw (l : Link) (i : SlotId) : Link :=
  if l.sending i then
    { l with slots := l.slots.put i { l.slots.get i with later := some none } }
  else { l with slots := l.slots.put i .empty }

/-- A block's request for a frame (R113). -/
def State.request (s : State) (i : SlotId) (r : Req) : State := s.mapLink (fun l => l.request i r)

/-- A block's withdrawal of a frame (R113). -/
def State.withdraw (s : State) (i : SlotId) : State := s.mapLink (fun l => l.withdraw i)

/-- The fresh mark of the HOLDINGS request that a new one would replace (R125). -/
def Link.waitingFresh (l : Link) : Bool :=
  match l.slots.holdings.later, l.slots.holdings.req with
  | some (some (.holdings f)), _ => f
  | _, some (.holdings f) => f
  | _, _ => false

/-- The credit unit asks for a HOLDINGS frame; in OFF-LINE the request is dropped (R125). -/
def State.askHoldings (s : State) (fresh : Bool) : State :=
  if s.pacing.lane = .offLine then s
  else s.request .holdings (.holdings (fresh || s.link.waitingFresh))

/-! ### Asking for credit (R127, R128) -/

/-- The asking test holds (R127). -/
def State.askingHolds (s : State) : Bool :=
  match s.pacing.settings with
  | none => false
  | some g =>
    s.pacing.lane.moving &&
      (decide (s.funds.spendable < g.lowMark) || !s.funds.unfunded.isEmpty)

/-- An ask opens (R127). -/
def State.openAsk (s : State) (amount timeout : Nat) : State :=
  ((s.mapCredit (fun c => { c with ask := some ⟨amount, timeout⟩ })).request .creditAsk
    .creditAsk).askHoldings false

/-- An open ask closes; its CREDIT ASK is withdrawn if not yet sent (R127, R128). -/
def State.closeAsk (s : State) : State :=
  if s.credit.ask.isSome then
    ((s.mapCredit (fun c => { c with ask := none })).withdraw .creditAsk).askHoldings false
  else s

/-- The asking test is made (R127, R128). -/
def State.askingTest (s : State) : State :=
  if s.askingHolds then
    match s.pacing.settings with
    | some g =>
      if !s.link.mute && s.credit.ask.isNone && s.credit.remit.isNone && s.credit.backOff.isNone then
        s.openAsk g.askAmount g.askTimeout
      else s
    | none => s
  else s.mapCredit (fun c => { c with creditShort := false })

/-! ### Lending (R130, R131) -/

/-- The lendable amount (R130). -/
def State.lendable (s : State) : Nat :=
  match s.pacing.settings with
  | none => 0
  | some g => s.funds.spendable - g.keepAmount

/-- An entry of a table keyed by station. -/
def lookup {α : Type} (l : List (Nat × α)) (st : Nat) : Option α :=
  match l with
  | [] => none
  | (k, v) :: rest => if k = st then some v else lookup rest st

/-- A table keyed by station in rising order, with one entry made or replaced. -/
def insertEntry {α : Type} (l : List (Nat × α)) (st : Nat) (v : α) : List (Nat × α) :=
  match l with
  | [] => [(st, v)]
  | (k, w) :: rest =>
    if st < k then (st, v) :: (k, w) :: rest
    else if st = k then (st, v) :: rest
    else (k, w) :: insertEntry rest st v

/-- A table keyed by station with one entry dropped. -/
def dropEntry {α : Type} (l : List (Nat × α)) (st : Nat) : List (Nat × α) :=
  l.filter (fun e => e.1 != st)

/-- A mirror entry is eligible (R130). -/
def State.eligible (s : State) (e : Nat × Mirrored) : Bool :=
  decide (0 < e.2.remaining) &&
    match lookup s.credit.roster e.1 with
    | none => true
    | some h => decide (h.date = s.clock.date)

/-- The rank of a borrower: those in the roster first, by spendable funds as last announced (R130). -/
def State.borrowerRank (s : State) (station : Nat) : Option Int :=
  (lookup s.credit.roster station).map (fun h => (h.available : Int) - (h.reserved : Int))

/-- A borrower of rank `a` is chosen before one of rank `b` that stands at a lower number. -/
def ranksBefore (a b : Option Int) : Bool :=
  match a, b with
  | some x, some y => decide (x < y)
  | some _, none => true
  | none, _ => false

/-- The eligible entry chosen (R130); the mirror stands in rising order, so ties keep the lower number. -/
def State.chosenBorrower (s : State) : Option (Nat × Mirrored) :=
  (s.credit.mirror.filter s.eligible).foldl
    (fun best e =>
      match best with
      | none => some e
      | some b => if ranksBefore (s.borrowerRank e.1) (s.borrowerRank b.1) then some e else some b)
    none

/-- The conditions of the lending test, but for the one on the passage slot (R130, R131). -/
def State.lendingHolds (s : State) : Bool :=
  s.pacing.settings.isSome && (s.pacing.lane != .offLine) && !s.link.mute &&
    s.funds.store.outbound.isNone && !s.funds.storeFault &&
    decide (s.funds.store.nextPassage ≤ Config.lastPassage) && s.credit.ask.isNone &&
    s.credit.remit.isNone && decide (0 < s.lendable) && s.credit.mirror.any s.eligible

/-- The lending test is made (R130). -/
def State.lendingTest (s : State) : State :=
  if s.lendingHolds && !s.link.full .passage then s.request .passage (.lotPass .ask .waiting) else s

/-- The report of spendable funds to the credit unit: the asking test, then the lending test (R78, R91,
R127, R130; log 21). -/
def State.reportSpendable (s : State) : State := s.askingTest.lendingTest

/-- The reserved tally falls: the unfunded list is retried and spendable funds are reported (R69, R78). -/
def State.lowerReserved (s : State) (amount : Nat) : State :=
  ((s.mapFunds (fun f => { f with reserved := f.reserved - amount })).retry).reportSpendable

/-- The release of a record's reservation, if it holds one (R78). -/
def State.releaseOf (s : State) (p : Piece) : State :=
  if p.reserved then s.lowerReserved (p.postage.getD 0) else s

/-! ### Claims to the arbiter (R79 to R88) -/

/-- What becomes of a claim at its grant: a write, done without one, or refused. -/
inductive Verdict where
  | write
  | done
  | refused (r : Refused)
deriving DecidableEq, Repr

/-- The settled entry of a sender, (0, none) when not listed (R75). -/
def Store.settledOf (st : Store) (sender : Nat) : Settled :=
  (lookup st.settled sender).getD { number := 0, outcome := none }

/-- The amount of the outbound passage, 0 when absent (R74). -/
def Store.outboundAmount (st : Store) : Nat := (st.outbound.map Passage.amount).getD 0

/-- The tests at the grant of a claim (R81 to R88), after STORE FAULT and with the closed journal last
(R162, log 9). -/
def State.verdict (s : State) (c : Claim) : Verdict :=
  let st := s.funds.store
  let orFull : Verdict := if st.closed then .refused .full else .write
  if s.funds.storeFault then .refused .store
  else
    match c with
    | .lotIn sender passage amount =>
      if passage ≤ (st.settledOf sender).number then .refused .stale
      else if Config.maxAvailable < st.available + st.outboundAmount + amount then .refused .capacity
      else orFull
    | .refill serial amount =>
      if serial ≠ (st.refillSerial + 1) % 65536 then .refused .serial
      else if Config.maxAvailable < st.available + st.outboundAmount + amount ∨
          Config.maxRefillsTotal < st.refillsTotal + amount then .refused .capacity
      else orFull
    | .debit _ postage _ =>
      if Config.maxAscending < st.ascending + postage ∨ Config.maxPieceCount ≤ st.pieceCount then
        .refused .full
      else orFull
    | .runMark set => if st.runMark.isSome = set then .done else .write
    | .lotOutStart _ amount _ =>
      if st.outbound.isSome then .refused .busy
      else if Config.lastPassage < st.nextPassage then .refused .passagesSpent
      else if s.funds.spendable < amount then .refused .short
      else .write
    | .lotOutEnd passage _ =>
      if st.outbound.map Passage.number = some passage then orFull else .refused .noPassage
    | .settleNotTaken sender passage =>
      if passage ≤ (st.settledOf sender).number then .refused .stale else .write
    | .journalAppend => orFull

/-- The store is free and no claim waits. -/
def Arbiter.idle (a : Arbiter) : Bool :=
  a.writing.isNone && a.link.isNone && a.print.isEmpty && a.credit.isEmpty && !a.append

/-- A waiting RUN MARK claim is replaced by the newer value (R88). DESIGN CHOICE (log 59): the newer claim stands in the
place of the one replaced. -/
def replaceRunMark (set : Bool) : List Claim → Option (List Claim)
  | [] => none
  | .runMark _ :: rest => some (.runMark set :: rest)
  | c :: rest => (replaceRunMark set rest).map (c :: ·)

/-- A claim joins its class (R79). -/
def Arbiter.enqueue (a : Arbiter) (c : Claim) : Arbiter :=
  match c with
  | .lotIn .. => { a with link := some c }
  | .refill .. => { a with link := some c }
  | .debit .. => { a with print := a.print ++ [c] }
  | .runMark set =>
    { a with print := (replaceRunMark set a.print).getD (a.print ++ [c]) }
  | .lotOutStart .. => { a with credit := a.credit ++ [c] }
  | .lotOutEnd .. => { a with credit := a.credit ++ [c] }
  | .settleNotTaken .. => { a with credit := a.credit ++ [c] }
  | .journalAppend => { a with append := true }

/-- A claim is made: granted at once when the store is free, no claim waits and it passes its tests;
otherwise it waits, and a refusal is answered at the end of the step (R79, log 8). -/
def State.claim (s : State) (c : Claim) : State :=
  s.mapFunds (fun f =>
    if f.arbiter.idle && (s.verdict c == .write) then
      { f with arbiter := { f.arbiter with writing := some c } }
    else { f with arbiter := f.arbiter.enqueue c })

/-- A LOT OUT END for the passage is claimed and not yet answered (R136). -/
def Arbiter.endClaimed (a : Arbiter) (passage : Nat) : Bool :=
  (a.writing.toList ++ a.credit).any (fun c =>
    match c with
    | .lotOutEnd n _ => n == passage
    | _ => false)

/-! ### Lane state changes (R152) -/

/-- The timers and marks of the pacing unit on a change of lane state (R154, R156, R157, R158, R160). -/
def Pacing.enter (p : Pacing) (new : Lane) : Pacing :=
  let p := { p with lane := new, drainScale := false, drainHead := false }
  if new.moving then p
  else { p with holdTimer := none, heatTimer := none, heatActive := false, idleTimer := none,
                window := none }

/-- The lane passes to a new state (R152): pacing's own timers, the open ask, the HOLDINGS request, the
RUN MARK claim and the asking test. -/
def State.setLane (s : State) (new : Lane) : State :=
  let starts := !s.pacing.lane.moving && new.moving && s.pacing.hot
  let s := s.mapPacing (fun p =>
    let p := p.enter new
    if starts then { p with heatTimer := some Config.heatSpan } else p)
  let s := if new.moving then s else s.closeAsk
  let s := s.askHoldings (new == .ready)
  let s :=
    match new with
    | .running => s.claim (.runMark true)
    | .ready => s.claim (.runMark false)
    | .quiet => s.claim (.runMark false)
    | _ => s
  s.askingTest

/-- A drain ends: STOPPED with the head mark, READY otherwise (R154). -/
def State.endDrain (s : State) : State :=
  s.setLane (if s.pacing.drainHead then .stopped else .ready)

/-- A request to drain, with the marks it asks for (R154). -/
def State.drain (s : State) (scale head : Bool) : State :=
  match s.pacing.lane with
  | .running =>
    let s := (s.setLane .draining).mapPacing (fun p => { p with drainScale := scale, drainHead := head })
    if s.track.records.isEmpty then s.endDrain else s
  | .draining =>
    s.mapPacing (fun p =>
      { p with drainScale := p.drainScale || scale, drainHead := p.drainHead || head })
  | _ => s

/-- A QUIET lane wakes on its own note or stop button and asks for a WAKE (R159). -/
def State.wakeOwn (s : State) : State := (s.setLane .running).request .wake .wake

/-! ### Journal offers (R89) -/

/-- An entry of the track unit or the print path joins the journal queue (R89). -/
def State.offer (s : State) (e : Entry) : State :=
  s.mapFunds (fun f => { f with queue := f.queue ++ [e] })

/-- A BANK SWITCH entry is offered; refused, it waits in rate memory (R52, R89, log 25). -/
def State.offerSwitch (s : State) (e : Entry) : State :=
  if s.canTake && s.funds.waiters.isEmpty then s.offer e
  else
    (s.mapRate (fun r => { r with waitingSwitch := some e })).mapFunds (fun f =>
      { f with waiters :=
          if f.waiters.contains .bankSwitch then f.waiters else f.waiters ++ [.bankSwitch] })

/-- A DATE SET entry is offered; refused, it waits in the date clock (R89, R147, log 25). DESIGN CHOICE (log 45):
one that replaces a waiting one keeps the place of the first refusal, also before a BANK SWITCH entry refused
between the two. -/
def State.offerDateSet (s : State) (e : Entry) : State :=
  if s.canTake && s.funds.waiters.isEmpty then s.offer e
  else
    (s.mapClock (fun c => { c with waitingEntry := some e })).mapFunds (fun f =>
      { f with waiters :=
          if f.waiters.contains .dateSet then f.waiters else f.waiters ++ [.dateSet] })

/-! ### The acknowledge field (R112, R120) -/

/-- The answer to an addressed frame; a MUTE station and one with LINK STUCK current drive nothing (R120,
R121, R122). -/
def State.answerFrame (s : State) (taken : Bool) : State :=
  s.mapLink (fun l =>
    { l with ack := if taken && !l.stuck && !l.mute then .driven else .released })

/-- The answer to a frame that may be broadcast: only an addressed one has an acknowledge field. -/
def State.answerIf (s : State) (addressed taken : Bool) : State :=
  if addressed then s.answerFrame taken else s

end Sys2Proof.Machine
end

