-- ==== Sys2Proof/Machine/Banks.lean ====
section
/-! DEFINITION. Rate memory's shared operations (chapter 3): the directory, reference marks, the switch
test and the switch, RATES BEHIND, LOAD FAILED, and the pricing of a piece from a bank (chapter 4). -/

namespace Sys2Proof.Machine

/-! ### The directory (R40) -/

/-- The two banks. -/
inductive BankId where
  | a
  | b
deriving DecidableEq, Repr

/-- One bank. -/
def Rate.bank (r : Rate) : BankId → Bank
  | .a => r.bankA
  | .b => r.bankB

/-- One bank changed. -/
def Rate.mapBank (r : Rate) (i : BankId) (f : Bank → Bank) : Rate :=
  match i with
  | .a => { r with bankA := f r.bankA }
  | .b => { r with bankB := f r.bankB }

/-- The first bank, A before B, that satisfies a test. -/
def Rate.findBank (r : Rate) (p : Bank → Bool) : Option BankId :=
  if p r.bankA then some .a else if p r.bankB then some .b else none

/-- FREE. -/
def Bank.isFree (b : Bank) : Bool := b.state == .free
/-- LOADING. -/
def Bank.isLoading (b : Bank) : Bool :=
  match b.state with
  | .loading _ => true
  | _ => false
/-- PENDING. -/
def Bank.isPending (b : Bank) : Bool := b.state == .pending
/-- CURRENT. -/
def Bank.isCurrent (b : Bank) : Bool := b.state == .current
/-- RETIRING. -/
def Bank.isRetiring (b : Bank) : Bool := b.state == .retiring

/-- The bank holds the generation: it is not FREE and bears it (section 3.1). -/
def Bank.holdsGen (b : Bank) (g : Nat) : Bool := !b.isFree && (b.generation == some g)

/-- The directory entry of a bank made FREE (R40). -/
def Bank.freed (b : Bank) : Bank :=
  { b with state := .free, generation := none, effective := none, named := false }

/-- The current generation, 0 when no bank is CURRENT (section 3.1). -/
def Rate.currentGen (r : Rate) : Nat :=
  match r.findBank Bank.isCurrent with
  | some i => (r.bank i).generation.getD 0
  | none => 0

/-- The pending generation, 0 when no bank is PENDING (section 3.1). -/
def Rate.pendingGen (r : Rate) : Nat :=
  match r.findBank Bank.isPending with
  | some i => (r.bank i).generation.getD 0
  | none => 0

/-- RATES BEHIND evaluated afresh (R55). -/
def Rate.evalBehind (r : Rate) : Rate :=
  { r with ratesBehind :=
      match r.highestHeard with
      | some h => decide (r.currentGen < h)
      | none => false }

/-! ### Reference marks (R53, R54) -/

/-- The mark of a bank is cleared; a RETIRING bank becomes FREE (R53, R54). -/
def Bank.unname (b : Bank) : Bank := if b.isRetiring then b.freed else { b with named := false }

/-- The departure of a record is reported for its generation; when no record still on the track holds it,
the mark of the bank holding it is cleared (R20, R53, R54). -/
def State.reportDeparture (s : State) (gen : Option Nat) : State :=
  match gen with
  | none => s
  | some g =>
    if s.track.records.any (fun p => p.generation == some g) then s
    else
      s.mapRate (fun r =>
        match r.findBank (fun b => b.holdsGen g) with
        | some i => r.mapBank i Bank.unname
        | none => r)

/-! ### LOAD FAILED (R50) and the switch (R51, R52) -/

/-- LOAD FAILED is raised with a reason, which replaces the one held (R50). -/
def State.loadFailed (s : State) (reason : LoadReason) : State := s.raise (.loadFailed reason)

/-- The bank that the switch would make CURRENT: PENDING, with the clock valid and its day come (R51). -/
def State.switchDue (s : State) : Option BankId :=
  match s.rate.findBank Bank.isPending with
  | none => none
  | some i =>
    match (s.rate.bank i).effective with
    | none => none
    | some e => if !s.clock.invalid && s.clock.date.atOrAfter e then some i else none

/-- A bank after the directory write of a switch (R52). -/
def Bank.switched (b : Bank) : Bank :=
  match b.state with
  | .pending => { b with state := .current }
  | .current => if b.named then { b with state := .retiring } else b.freed
  | _ => b

/-- The switch (R52): one directory write, the BANK SWITCH entry, HOLDINGS, and RATES BEHIND afresh. -/
def State.switchBanks (s : State) : State :=
  let entry : Entry :=
    .bankSwitch s.rate.pendingGen
      (match s.rate.findBank Bank.isCurrent with
        | some i => (s.rate.bank i).generation
        | none => none)
      s.clock.date
  ((((s.mapRate (fun r => { r with bankA := r.bankA.switched, bankB := r.bankB.switched })).offerSwitch
    entry).askHoldings false).mapRate Rate.evalBehind)

/-- The switch test (R51). -/
def State.switchTest (s : State) : State :=
  match s.switchDue with
  | some _ => s.switchBanks
  | none => s

/-! ### Pricing (R61 to R65) -/

/-- The bank chosen at stage 2 (R61). -/
def Rate.choose (r : Rate) (printed : Date) : Option BankId :=
  let pending :=
    match r.findBank Bank.isPending with
    | some i =>
      match (r.bank i).effective with
      | some e => if printed.atOrAfter e then some i else none
      | none => none
    | none => none
  match pending with
  | some i => some i
  | none => r.findBank Bank.isCurrent

/-- A measure over a class's limits (R62). -/
def RateClass.exceededBy (c : RateClass) (f : RatingFacts) : Bool :=
  decide (c.maxWeight < f.weight) || decide (2 * c.maxLength < f.length) ||
    decide (c.maxWidth < f.width) || decide (c.maxThickness < f.thickness)

/-- The first break at or above a weight (R42, R63). -/
def RateClass.breakFor (c : RateClass) (weight : Nat) : Option Break :=
  c.breaks.find? (fun b => decide (weight ≤ b.limit))

/-- Whole steps of an excess, rounded up (R64). -/
def stepsOf (excess step : Nat) : Nat := (excess + step - 1) / step

/-- What a surcharge adds to a piece of the class, 0 when it does not apply (R43, R64). Lengths are in
twentieths of a millimetre, so a threshold and a step in tenths are doubled (log 6). -/
def Surcharge.amount (x : Surcharge) (classCode : Nat) (f : RatingFacts) : Nat :=
  let inSet :=
    match x.classSet with
    | none => true
    | some codes => codes.contains classCode
  let beyond (measure threshold step : Nat) : Nat :=
    if threshold < measure then x.fixed + x.perStep * stepsOf (measure - threshold) step else 0
  if inSet then
    match x.condition with
    | .service code => if f.services.contains code then x.fixed else 0
    | .thicknessOver t => beyond f.thickness t x.step
    | .lengthOver t => beyond f.length (2 * t) (2 * x.step)
    | .weightOver t => beyond f.weight t x.step
    | .zoneRange low high => if low ≤ f.zone ∧ f.zone ≤ high then x.fixed else 0
  else 0

/-- A sum rounded up to a multiple of the rounding unit (R65). -/
def roundUp (sum unit : Nat) : Nat := stepsOf sum unit * unit

/-- Stages 3 to 6 (R62, R63): the class found and its base price, or the outcome of the first failure. -/
def Bank.basePrice (b : Bank) (f : RatingFacts) : Except DivertReason (RateClass × Nat) :=
  match b.classes.find? (fun c => c.code == f.classCode) with
  | none => .error .noClass
  | some c =>
    if c.exceededBy f then .error .overLimit
    else if f.zone = 0 ∨ b.zones < f.zone then .error .badZone
    else
      match c.breakFor f.weight with
      | none => .error .overLimit
      | some k =>
        match k.prices[f.zone - 1]? with
        | some (some price) => .ok (c, price)
        | _ => .error .notOffered

/-- Stages 3 to 8 (R62 to R65): the class code, the running sum and the rounded postage, or a failure. -/
def Bank.price (b : Bank) (f : RatingFacts) : Except DivertReason (Nat × Nat × Nat) :=
  match b.basePrice f with
  | .error r => .error r
  | .ok (c, base) =>
    let sum := b.surcharges.foldl (fun a x => a + x.amount c.code f) base
    let postage := roundUp sum b.rounding
    if Config.maxPostage < postage then .error .overMaximum else .ok (c.code, sum, postage)

end Sys2Proof.Machine
end

