-- ==== Sys2Proof/Machine/PrintPath.lean ====
section
/-! DEFINITION. The print path's shared operations (chapter 6): pieces passed unprinted and spoiled, the
imprint, the release tests, the HEAD FAULT condition, the exit. -/

namespace Sys2Proof.Machine

/-- A message is sent on the head link (R93). -/
def State.sendHead (s : State) (m : HeadMessage) : State :=
  s.mapPrint (fun p => { p with headOut := p.headOut ++ [m] })

/-- A record is passed unprinted (R96): its reservation is released, its reason set, an entry offered. -/
def State.passUnprinted (s : State) (p : Piece) (cause : PassCause) : State :=
  ((s.setRecord p.tag (fun q =>
      { q with reserved := false, reason := some (.passedUnprinted cause) })).offer
    (.passedUnprinted p.tag cause p.facts)).releaseOf p

/-- A record is SPOILED with a cause and its entry offered (R107); an imprint it holds stays with it (R93). -/
def State.spoil (s : State) (p : Piece) (cause : SpoilCause) : State :=
  (s.setRecord p.tag (fun q => { q with reason := some (.spoiled cause) })).offer
    (.spoiled p.tag p.pieceNumber cause p.facts)

/-- The imprint a record holds is discarded unsent (R105 step 4). -/
def State.discardImprint (s : State) (tag : Nat) : State :=
  s.setRecord tag (fun q => { q with imprint := none })

/-- ABORT for one entry of the printing list, its record SPOILED HEAD FAULT (R105 step 3). -/
def State.abortPrinting (s : State) (e : Printing) : State :=
  let s := s.sendHead (.abort e.piece)
  match s.track.find e.tag with
  | some p => s.spoil p .headFault
  | none => s

/-- A DEBITED record with no outcome (R101, R105). -/
def Piece.awaitsPrint (p : Piece) : Bool := (p.state == .debited) && !p.hasOutcome

/-- Steps 3 to 5 of raising HEAD FAULT (R105). DESIGN CHOICE (log 60): in step 4, which names no order, the records are
spoiled oldest first. -/
def State.spoilForHeadFault (s : State) : State :=
  let s := (s.print.printing.foldl State.abortPrinting s).mapPrint (fun p => { p with printing := [] })
  let s := (s.track.records.filter Piece.awaitsPrint).foldl
    (fun s p => (s.discardImprint p.tag).spoil p .headFault) s
  s.mapPrint (fun p =>
    { p with armed := p.armed.map (fun a =>
        if a.provisional.isNone then { a with provisional := some .headFault } else a) })

/-- The HEAD FAULT condition is raised (R105). -/
def State.raiseHeadFault (s : State) (piece : Nat) (cause : HeadFaultCause) : State :=
  let s := s.raise (.headFault piece cause)
  if s.print.headFault then s.spoilForHeadFault
  else
    ((s.mapPrint (fun p => { p with headFault := true, headReady := false })).spoilForHeadFault).drain
      false true

/-- The test for the end of the HEAD FAULT condition (R105). -/
def State.headFaultEnd (s : State) : State :=
  if s.track.records.isEmpty && s.print.headReady then
    s.mapPrint (fun p => { p with headFault := false })
  else s

/-- The imprint of a piece (R99). -/
def State.imprintFor (s : State) (number : Nat) (facts : PieceFacts) : Imprint :=
  Imprint.sealed
    { lineId := (s.pacing.settings.map Settings.lineId).getD 0, station := s.link.station, piece := number,
      printed := facts.printed, postage := facts.postage, classCode := facts.classCode,
      zone := facts.zone, weight := facts.weight, generation := facts.generation, check := 0 }

/-- The record's sampled franking date is the date clock's (R18, R95, R101). -/
def State.dateHolds (s : State) (p : Piece) : Bool := p.sampled == some s.clock.date

/-- The imprint of a DEBITED record is released to the head (R101). -/
def State.releaseImprint (s : State) (p : Piece) : State :=
  let s :=
    match p.imprint with
    | some i => s.sendHead (.imprint i)
    | none => s
  (s.mapPrint (fun q =>
      { q with printing := q.printing ++ [{ piece := p.pieceNumber.getD 0, tag := p.tag }] })).setRecord
    p.tag (fun q => { q with state := .printing, imprint := none })

/-- The release tests (R101). -/
def State.releaseTests (s : State) (p : Piece) : State :=
  if s.clock.invalid then s.spoil p .clock
  else if !s.dateHolds p then s.spoil p .datePassed
  else if !s.print.headReady then
    (s.spoil p .notReady).raiseHeadFault (p.pieceNumber.getD 0) .notReady
  else s.releaseImprint p

/-- The print event of a record (R100). -/
def State.printEvent (s : State) (p : Piece) : State :=
  if p.awaitsPrint then s.releaseTests p
  else if (p.state == .armed) && !p.hasOutcome then
    s.mapPrint (fun q =>
      { q with armed := q.armed.map (fun a =>
          if (a.tag == p.tag) && a.provisional.isNone then
            { a with printEvent := some s.io.encoder }
          else a) })
  else s

/-- A record handed to the print path at its exit (R106). -/
def State.exitSettle (s : State) (p : Piece) : State :=
  if p.hasOutcome then s
  else
    match p.state with
    | .printed =>
      s.mapPrint (fun q => { q with franked := min Config.frankedTop (q.franked + 1) })
    | .printing =>
      let number := p.pieceNumber.getD 0
      (((s.sendHead (.abort number)).mapPrint (fun q =>
          { q with printing := q.printing.filter (fun e => e.piece != number) })).spoil p
        .noAnswer).raiseHeadFault number .noAnswer
    | _ => s

/-- A record handed to the print path at abandonment, after it has left the queue (R108). DESIGN CHOICE (log 57): a PRINTED
record raises the franked counter by R108's first case and R23, though R108 ends by saying that abandonment does not
change that counter. -/
def State.abandonSettle (s : State) (p : Piece) : State :=
  if p.hasOutcome then s
  else
    match p.state with
    | .printed =>
      s.mapPrint (fun q => { q with franked := min Config.frankedTop (q.franked + 1) })
    | .printing =>
      let number := p.pieceNumber.getD 0
      ((s.sendHead (.abort number)).mapPrint (fun q =>
          { q with printing := q.printing.filter (fun e => e.piece != number) })).offer
        (.spoiled p.tag p.pieceNumber .stopped p.facts)
    | .debited => s.offer (.spoiled p.tag p.pieceNumber .stopped p.facts)
    | .armed => s
    | _ => (s.offer (.abandoned p.tag p.facts)).releaseOf p

end Sys2Proof.Machine
end

