-- ==== Sys2Proof/Machine/Departure.lean ====
section
/-! DEFINITION. How records leave the track (R19 to R23) and the stop with abandonment (R155). -/

namespace Sys2Proof.Machine

/-! ### Reports of the track unit (R20) -/

/-- The track queue has become empty: the HEAD FAULT test (R105), then the end of a drain (R154). -/
def State.trackEmptied (s : State) : State :=
  let s := s.headFaultEnd
  if s.pacing.lane = .draining then s.endDrain else s

/-- A record leaves the track queue with its expectations (R15, R20). -/
def Track.remove (t : Track) (tag : Nat) : Track :=
  { t with
    records := t.records.filter (fun p => p.tag != tag),
    printExpected := t.printExpected.filter (fun e => e.tag != tag),
    exitExpected := t.exitExpected.filter (fun e => e.tag != tag) }

/-- The reports that follow a departure: its generation to rate memory, an empty queue to pacing (R20). -/
def State.departed (s : State) (p : Piece) : State :=
  let s := s.reportDeparture p.generation
  if s.track.records.isEmpty then s.trackEmptied else s

/-! ### The engine and the unfunded list when a record goes (R58, R68, R70) -/

/-- A rating in progress for the tag is abandoned, and the tag leaves the rating queue (R58, R70). -/
def Engine.forget (e : Engine) (tag : Nat) : Engine :=
  { queue := e.queue.filter (fun t => t != tag),
    rating :=
      match e.rating with
      | some r => if r.tag = tag then none else some r
      | none => none }

/-- A tag leaves the unfunded list; when the list becomes empty the credit unit's report ends (R68). -/
def State.dropUnfunded (s : State) (tag : Nat) : State :=
  if s.funds.unfunded.contains tag then
    let s := s.mapFunds (fun f => { f with unfunded := f.unfunded.erase tag })
    if s.funds.unfunded.isEmpty then s.askingTest else s
  else s

/-! ### Divert (R19) -/

/-- A WAITING or OPEN entry closed with no outcome as its record leaves by divert (R28). -/
def PlatformEntry.closed (e : PlatformEntry) : PlatformEntry := { e with phase := .done }

/-- The divert hold placed for a diverted piece (R19). -/
def divertHoldFor (p : Piece) (decision : Nat) : DivertHold :=
  match p.trail with
  | some t => .untilCount (after t decision)
  | none => .onTrail p.tag

/-- A record judged diverted leaves the track queue (R19). -/
def State.divert (s : State) (g : Geometry) (p : Piece) (reason : DivertReason) : State :=
  let s := s.mapTrack (fun t =>
    { (t.remove p.tag) with
      divertHold := some (divertHoldFor p g.decision),
      diverted := min Config.counterTop (t.diverted + 1) })
  let s := s.mapWeigh (fun w =>
    { w with
      platform := w.platform.map (fun e => if e.tag == p.tag then e.closed else e),
      barQueue := w.barQueue.filter (fun t => t != p.tag) })
  let s := s.mapEngine (fun e => e.forget p.tag)
  let s := s.dropUnfunded p.tag
  let s := s.releaseOf p
  let s := s.offer (.diverted p.tag reason p.facts)
  s.departed p

/-! ### Exit (R21) -/

/-- A record leaves at the exit eye, after the print path has settled it (R21, R106). -/
def State.exitRecord (s : State) (p : Piece) : State :=
  ((s.exitSettle p).mapTrack (fun t => t.remove p.tag)).departed p

/-! ### Abandonment (R23) -/

/-- The oldest record leaves at abandonment (R23, R108). -/
def State.abandonOne (s : State) (p : Piece) : State :=
  ((s.mapTrack (fun t => { t with records := t.records.drop 1 })).abandonSettle p).reportDeparture
    p.generation

/-- What else abandonment empties: notes, gate, grace, divert hold, expectations, the platform list, the
bar queue, the engine (R23, R28, R39, R73). -/
def State.clearLane (s : State) : State :=
  ((s.mapTrack (fun t =>
      { t with records := [], notes := [], gateOpen := false, grace := none, divertHold := none,
               printExpected := [], exitExpected := [] })).mapWeigh
    (fun w => { w with platform := [], barQueue := [] })).mapEngine (fun _ => Engine.afterReset)

/-- Abandonment (R23); the unfunded list is emptied first (R68, log 26). DESIGN CHOICE (log 43): R108 says that
abandonment does not change the HEAD FAULT condition, R105 ends it at the report of an empty track (R20) with the
head READY; the report is made here, and it ends the condition. -/
def State.abandon (s : State) : State :=
  let had := !s.track.records.isEmpty
  let s := s.mapFunds (fun f => { f with unfunded := [] })
  let s := (s.track.records.foldl State.abandonOne s).clearLane
  if had then s.headFaultEnd else s

/-- A request to put the lane STOPPED with abandonment (R155). -/
def State.stop (s : State) : State :=
  if s.pacing.lane = .offLine ∨ s.pacing.lane = .stopped then s else (s.setLane .stopped).abandon

/-- An unmatched lead edge: STRAY PIECE and the stop (R17). -/
def State.stray (s : State) (eye : Eye) : State := (s.raise (.strayPiece eye)).stop

/-- DUPLICATE STATION is raised (R122): MUTE, every slot empty, the lane stopped. The open ask closes and
a remit ends with the station MUTE (R128, R139). -/
def State.raiseDuplicate (s : State) : State :=
  let s := s.raise .duplicateStation
  let s := s.mapLink (fun l =>
    { l with duplicate := true, mute := true, slots := .empty, attempt := none })
  let s := s.mapCredit (fun c =>
    { c with query := c.query.map (fun q => { q with timer := none }) })
  let s := s.closeAsk
  let s :=
    match s.credit.remit with
    | some r =>
      (s.raise (.remitIncomplete r.dest (r.remaining.getD s.funds.store.available))).mapCredit
        (fun c => { c with remit := none })
    | none => s
  (s.askingTest).stop

end Sys2Proof.Machine
end

