-- ==== Sys2Proof/Machine/Arbiter.lean ====
section
/-! DEFINITION. The writes of the funds store (R77, R81 to R90), the answers to claims, the arbiter's grants
(R79), and what settles at the end of a step. -/

namespace Sys2Proof.Machine

/-! ### The write of each kind (5.5) -/

/-- An entry placed in the ring with the next journal number; a full ring loses its oldest (R90, R162). -/
def Store.place (st : Store) (e : Entry) : Store :=
  let ring := st.ring ++ [{ number := st.nextJournal, entry := e }]
  { st with
    ring := if Config.ringSize < ring.length then ring.drop 1 else ring,
    nextJournal := st.nextJournal + 1 }

/-- The number of the entry that placing one more removes (R162). -/
def Store.displaced (st : Store) : Option Nat :=
  if Config.ringSize ≤ st.ring.length then st.ring.head?.map Placed.number else none

/-- A claim whose write places an entry (R90). -/
def Claim.places : Claim → Bool
  | .lotIn .. => true
  | .refill .. => true
  | .debit .. => true
  | .lotOutEnd .. => true
  | .journalAppend => true
  | _ => false

/-- Available after a DEBIT (R81); above available the manual states no result and a free value stands
(log 10). -/
def debitedAvailable (draws available postage : Nat) : Nat :=
  if postage ≤ available then available - postage else Config.overdrawn draws available

/-- What a write leaves in the store (R81 to R88). `head` is the entry at the head of the journal queue. -/
def Store.write (st : Store) (draws : Nat) (head : Option Entry) (c : Claim) : Store :=
  match c with
  | .debit tag postage facts =>
    let number := st.pieceCount + 1
    Store.place
      { st with
        available := debitedAvailable draws st.available postage,
        ascending := st.ascending + postage,
        pieceCount := number,
        lastCommit := some { piece := number, postage := postage, journal := st.nextJournal } }
      (.committed tag number facts)
  | .lotIn sender passage amount =>
    Store.place
      { st with
        available := st.available + amount,
        settled := insertEntry st.settled sender { number := passage, outcome := some .taken } }
      (.lotIn sender passage amount)
  | .refill serial amount =>
    Store.place
      { st with
        available := st.available + amount,
        refillsTotal := st.refillsTotal + amount,
        refillSerial := serial }
      (.refill serial amount)
  | .lotOutStart dest amount purpose =>
    { st with
      available := st.available - amount,
      outbound :=
        some { number := st.nextPassage, dest := dest, amount := amount, purpose := purpose },
      nextPassage := st.nextPassage + 1 }
  | .lotOutEnd _ outcome =>
    match st.outbound with
    | none => st
    | some p =>
      match outcome with
      | .taken =>
        Store.place { st with outbound := none } (.lotOut p.dest p.number p.amount p.purpose)
      | .notTaken =>
        Store.place { st with outbound := none, available := st.available + p.amount }
          (.lotReturned p.dest p.number p.amount p.purpose)
  | .settleNotTaken sender passage =>
    { st with
      settled := insertEntry st.settled sender { number := passage, outcome := some .notTaken } }
  | .runMark set => { st with runMark := if set then some st.pieceCount else none }
  | .journalAppend =>
    match head with
    | some e => st.place e
    | none => st

/-- JOURNAL WRAP for the entry that a write placing one removes, if it is unread (R165). -/
def State.wrapFault (s : State) (c : Claim) : State :=
  if c.places then
    match s.funds.store.displaced with
    | some n => if s.status.readMarker < n then s.raise (.journalWrap n) else s
    | none => s
  else s

/-- The reserved tally after the write: a DEBIT lowers it by the postage (R78, R81). -/
def Claim.reservedAfter (c : Claim) (reserved : Nat) : Nat :=
  match c with
  | .debit _ postage _ => reserved - postage
  | _ => reserved

/-- A free value is drawn by a DEBIT above available (log 10). -/
def Claim.draws (c : Claim) (available : Nat) : Nat :=
  match c with
  | .debit _ postage _ => if postage ≤ available then 0 else 1
  | _ => 0

/-- The write completes as one change: the store's fields and its entry, the tally, the free arbiter; an
entry appended leaves the journal queue (R77, R89, R90). -/
def State.commit (s : State) (c : Claim) : State :=
  (s.wrapFault c).mapFunds (fun f =>
    { f with
      store := f.store.write f.freeDraws f.queue.head? c,
      reserved := c.reservedAfter f.reserved,
      arbiter := { f.arbiter with writing := none },
      queue := if c = .journalAppend then f.queue.drop 1 else f.queue,
      freeDraws := f.freeDraws + c.draws f.store.available })

/-! ### STORE FAULT (R77) -/

/-- STORE FAULT is raised and current; the query timer stops (R134) and a RUNNING lane drains. -/
def State.raiseStoreFault (s : State) : State :=
  let s := s.raise .storeFault
  let s := s.mapFunds (fun f => { f with storeFault := true })
  let s := s.mapCredit (fun c => { c with query := c.query.map (fun q => { q with timer := none }) })
  if s.pacing.lane = .running then s.drain false false else s

/-! ### The credit unit's part in the answers -/

/-- A query in hand judged against the settled entry of its sender (R135). -/
def State.judgeQuery (s : State) : State :=
  match s.credit.inHand with
  | none => s
  | some q =>
    let e := s.funds.store.settledOf q.sender
    let away (s : State) : State := s.mapCredit (fun c => { c with inHand := none })
    if q.passage = e.number then
      away (s.request .passAnswer (.passAnswer q.sender q.passage (e.outcome.getD .notTaken)))
    else if e.number < q.passage then s.claim (.settleNotTaken q.sender q.passage)
    else away (s.raise (.queryStale q.sender q.passage))

/-- A remit ends complete, and the asking test is made (R139). -/
def State.endRemit (s : State) : State :=
  (s.mapCredit (fun c => { c with remit := none })).askingTest

/-- A remit ends with REMIT INCOMPLETE: its destination and the amount not remitted (R139). -/
def State.endRemitIncomplete (s : State) : State :=
  match s.credit.remit with
  | none => s
  | some r =>
    (s.raise (.remitIncomplete r.dest (r.remaining.getD s.funds.store.available))).endRemit

/-- The query state with its timer started if it is not running; it runs only where queries may be
placed. -/
def startedQuery (runs : Bool) (q : Option Query) : Query :=
  let q := q.getD { timer := none, count := 0 }
  if q.timer.isNone && runs then { q with timer := some Config.querySpan } else q

/-- The query timer is started if it is not running, while the passage is unresolved; it does not run at a
MUTE station or while STORE FAULT is current (R132, R134, R136). -/
def State.startQuery (s : State) : State :=
  let runs := !s.link.mute && !s.funds.storeFault
  s.mapCredit (fun c => { c with query := some (startedQuery runs c.query) })

/-- The claimed LOT PASS in the passage slot is withdrawn (R118, R131). -/
def State.withdrawClaimed (s : State) : State :=
  match s.link.slots.passage.req with
  | some (.lotPass _ .claimed) => s.withdraw .passage
  | _ => s

/-- The refill refusal reason of a refused claim (R84, R137, R162). -/
def Refused.refillReason : Refused → RefillReason
  | .serial => .serial
  | .capacity => .capacity
  | .store => .store
  | _ => .full

/-- REFILL REFUSED is raised, and the frame is not acknowledged (R137). -/
def State.refuseRefill (s : State) (serial : Nat) (reason : RefillReason) : State :=
  (s.raise (.refillRefused serial reason)).answerFrame false

/-! ### Refused claims -/

/-- A DEBIT refused: the piece is passed unprinted (R97); FULL raises ASCENDING FULL and stops the lane
(R82). -/
def State.debitRefused (s : State) (tag postage : Nat) (facts : PieceFacts) (r : Refused) : State :=
  let cause : PassCause := if r = .full then .full else .store
  let s := s.mapPrint (fun p => { p with armed := p.armed.filter (fun a => a.tag != tag) })
  let s :=
    match s.track.find tag with
    | some p => s.passUnprinted p cause
    | none => (s.offer (.passedUnprinted tag cause facts)).lowerReserved postage
  if r = .full then (s.raise .ascendingFull).stop else s

/-- The answer refused to each claimant. DESIGN CHOICE (log 52): a refused LOT OUT START of a remit ends the remit, with
its asking test, before the lending test on the emptied slot (R118, R130, R139). DESIGN CHOICE (log 56): R87 has a refused
SETTLE NOT TAKEN send no answer, R135 has one refused STALE judged again, which can answer; R135 is followed. -/
def State.refuse (s : State) (c : Claim) (r : Refused) : State :=
  match c with
  | .lotIn .. => s.answerFrame false
  | .refill serial _ => s.refuseRefill serial r.refillReason
  | .debit tag postage facts => s.debitRefused tag postage facts r
  | .runMark _ => s
  | .lotOutStart _ _ purpose =>
    let s := s.withdrawClaimed
    (if purpose = .remit then s.endRemitIncomplete else s).lendingTest
  | .lotOutEnd .. => if s.funds.store.outbound.isSome then s.startQuery else s
  | .settleNotTaken .. =>
    if r = .stale then s.judgeQuery else s.mapCredit (fun c => { c with inHand := none })
  | .journalAppend => s

/-! ### Answers of completed writes -/

/-- A record whose debit is done takes its number; its reservation has been converted (R98). -/
def Piece.debited (p : Piece) (number : Nat) (imprint : Option Imprint) : Piece :=
  { p with pieceNumber := some number, reserved := false, state := .debited, imprint := imprint }

/-- The DEBIT answer (R98): spoiled with the provisional outcome, spoiled STOPPED when the record has
left, or its imprint built and, with the print event held, the release tests made. -/
def State.debitDone (s : State) (tag number : Nat) (facts : PieceFacts) : State :=
  let entry := s.print.armed.find? (fun a => a.tag == tag)
  let provisional : Option SpoilCause := entry.bind Armed.provisional
  let s := s.mapPrint (fun p => { p with armed := p.armed.filter (fun a => a.tag != tag) })
  match s.track.find tag with
  | none => s.offer (.spoiled tag (some number) (provisional.getD .stopped) facts)
  | some p =>
    match provisional with
    | some cause =>
      let p := p.debited number none
      (s.setRecord tag (fun _ => p)).spoil p cause
    | none =>
      let p := p.debited number (some (s.imprintFor number facts))
      let s := s.setRecord tag (fun _ => p)
      if (entry.bind Armed.printEvent).isSome then s.releaseTests p else s

/-- HOLDINGS is asked for when a completed write has changed available (R91, R125). -/
def State.announceFrom (s : State) (before : Nat) : State :=
  if s.funds.store.available = before then s else s.askHoldings false

/-- A DEBIT done (R81, R98): the print path's answer, the retry and the reports, made once after the retry (log 21). -/
def State.finishDebit (s : State) (tag : Nat) (facts : PieceFacts) (before : Nat) : State :=
  ((((s.debitDone tag s.funds.store.pieceCount facts).retry).announceFrom before).reportSpendable)

/-- The remaining of the own ask falls by a lot taken; at 0 the ask closes (R127, R133). -/
def State.lowerAsk (s : State) (amount : Nat) : State :=
  match s.credit.ask with
  | none => s
  | some a =>
    if a.remaining ≤ amount then s.closeAsk
    else s.mapCredit (fun c => { c with ask := some { a with remaining := a.remaining - amount } })

/-- A LOT IN done (R83, R133); the retry comes before the one report of spendable funds (log 21). -/
def State.finishLotIn (s : State) (amount : Nat) : State :=
  ((((s.answerFrame true).lowerAsk amount).retry).askHoldings false).reportSpendable

/-- A REFILL done (R84, R137); the retry comes before the one report of spendable funds (log 21). -/
def State.finishRefill (s : State) : State :=
  (((s.answerFrame true).retry).askHoldings false).reportSpendable

/-- A LOT OUT START done: the begun LOT PASS stands in the passage slot (R85, R118); a station MUTE by
then sends none, and the passage stays unresolved (R122, log 18). -/
def State.finishLotOutStart (s : State) : State :=
  let s :=
    match s.funds.store.outbound with
    | some p =>
      let begun : Req := .lotPass p.purpose (.begun p.dest p.number p.amount)
      if s.link.mute then s.startQuery
      else s.mapLink (fun l => { l with slots := l.slots.put .passage (.holding begun) })
    | none => s
  (s.askHoldings false).reportSpendable

/-- The query state ends (R134). -/
def State.endQuery (s : State) : State :=
  let s := s.mapCredit (fun c => { c with query := none, passUnresolved := false })
  match s.link.slots.passage.req with
  | some (.passQuery ..) => s.withdraw .passage
  | _ => s

/-- The next step's LOT PASS of a remit is placed (R139); in a full slot it is refused (R113) and waits for the
slot (`State.passageEmptied`). -/
def State.nextRemitStep (s : State) : State :=
  if s.link.full .passage then s else s.request .passage (.lotPass .remit .waiting)

/-- The passage slot has become empty: a remit's step that found it full, a withdrawn query being sent in it, is
placed (R139, log 42), and the lending test is made (R130). -/
def State.passageEmptied (s : State) : State :=
  (if s.credit.remit.isSome && s.funds.store.outbound.isNone then s.nextRemitStep else s).lendingTest

/-- A remit goes on or ends as a passage resolves (R139; a passage of purpose ASK that stood in its way
only lets it go on, log 18). -/
def State.remitResolved (s : State) (p : Passage) (outcome : PassOutcome) : State :=
  match s.credit.remit with
  | none => s
  | some r =>
    if p.purpose = .ask then s.nextRemitStep
    else
      match outcome with
      | .notTaken => s.endRemitIncomplete
      | .taken =>
        match r.remaining with
        | none => s.nextRemitStep
        | some m =>
          if m ≤ p.amount then
            (s.mapCredit (fun c => { c with remit := some { r with remaining := some 0 } })).endRemit
          else
            (s.mapCredit (fun c =>
              { c with remit := some { r with remaining := some (m - p.amount) } })).nextRemitStep

/-- A LOT OUT END done (R86, R134, R139): the query state ends, funds returned are retried, the remit goes
on, and the asking and lending tests are made. DESIGN CHOICE (log 55): the retry comes before the remit's end and its
asking test (R69, R91, R139). -/
def State.finishLotOutEnd (s : State) (p : Passage) (outcome : PassOutcome) (before : Nat) : State :=
  let s := s.endQuery
  let s := if outcome = .notTaken then s.retry else s
  ((s.remitResolved p outcome).announceFrom before).reportSpendable

/-- A SETTLE NOT TAKEN done: the query is answered NOT TAKEN (R87, R135). -/
def State.finishSettle (s : State) (sender passage : Nat) : State :=
  (s.request .passAnswer (.passAnswer sender passage .notTaken)).mapCredit
    (fun c => { c with inHand := none })

/-- The answer done of each kind of write, after its commit; `prior` is the state before it. -/
def State.finish (s prior : State) (c : Claim) : State :=
  let before := prior.funds.store.available
  match c with
  | .lotIn _ _ amount => s.finishLotIn amount
  | .refill .. => s.finishRefill
  | .debit tag _ facts => s.finishDebit tag facts before
  | .runMark _ => s
  | .lotOutStart .. => s.finishLotOutStart
  | .lotOutEnd _ outcome =>
    match prior.funds.store.outbound with
    | some p => s.finishLotOutEnd p outcome before
    | none => s
  | .settleNotTaken sender passage => s.finishSettle sender passage
  | .journalAppend => s

/-- The write in progress ends: made and answered done, or undone with STORE FAULT and answered refused
(R77). DESIGN CHOICE (log 40): R77 gives the refused answer and the raising of STORE FAULT no order; the fault
and its drain come first here. -/
def State.endWrite (s : State) (c : Claim) (readBack : Bool) : State :=
  if readBack then (s.commit c).finish s c
  else
    ((s.mapFunds (fun f => { f with arbiter := { f.arbiter with writing := none } })).raiseStoreFault).refuse
      c .store

/-! ### Grants (R79) -/

/-- The journal queue claims a JOURNAL APPEND for its head, while none is outstanding and the store can
take one (R89, R162, log 28). DESIGN CHOICE (log 41): the claim is made when the rest of the step is done, so another
claim of the same event comes before it. -/
def State.claimAppend (s : State) : State :=
  if !s.funds.queue.isEmpty && !s.funds.arbiter.append &&
      (s.funds.arbiter.writing != some .journalAppend) && !s.funds.storeFault &&
      !s.funds.store.closed then
    s.claim .journalAppend
  else s

/-- The next claim in the arbiter's order, and the arbiter without it (R79). -/
def Arbiter.nextClaim (a : Arbiter) : Option (Claim × Arbiter) :=
  match a.link with
  | some c => some (c, { a with link := none })
  | none =>
    match a.print with
    | c :: rest => some (c, { a with print := rest })
    | [] =>
      match a.credit with
      | c :: rest => some (c, { a with credit := rest })
      | [] => if a.append then some (.journalAppend, { a with append := false }) else none

/-- Grants until a write is in progress or no claim waits, at most `n` of them (R79). -/
def State.grant : Nat → State → State
  | 0, s => s
  | n + 1, s =>
    let s := s.claimAppend
    if s.funds.arbiter.writing.isSome then s
    else
      match s.funds.arbiter.nextClaim with
      | none => s
      | some (c, a) =>
        let s := s.mapFunds (fun f => { f with arbiter := a })
        match s.verdict c with
        | .write =>
          s.mapFunds (fun f => { f with arbiter := { f.arbiter with writing := some c } })
        | .done => State.grant n s
        | .refused r => State.grant n (s.refuse c r)

/-- A LOT IN or REFILL is claimed and not yet answered: at most one at a time (R79, log 27). -/
def Arbiter.linkBusy (a : Arbiter) : Bool :=
  a.link.isSome ||
    match a.writing with
    | some (.lotIn ..) => true
    | some (.refill ..) => true
    | _ => false

/-- The arbiter grants what it can (R79): every claim that waits can be answered in one step. -/
def State.pump (s : State) : State :=
  State.grant (s.funds.arbiter.print.length + s.funds.arbiter.credit.length + 8) s

/-! ### What settles at the end of a step -/

/-- The IDLE engine takes the head of its queue (R59). -/
def State.takeTag (s : State) : State :=
  match s.engine.rating, s.engine.queue with
  | none, tag :: rest =>
    let facts : RatingFacts :=
      match s.track.find tag with
      | some p =>
        { classCode := (p.note.map Note.classCode).getD 0, zone := (p.note.map Note.zone).getD 0,
          services := (p.note.map Note.services).getD [], weight := p.weight.getD 0,
          length := p.length.getD 0, width := p.width.getD 0, thickness := p.thickness.getD 0 }
      | none =>
        { classCode := 0, zone := 0, services := [], weight := 0, length := 0, width := 0,
          thickness := 0 }
    (s.mapEngine (fun _ =>
      { queue := rest,
        rating := some
          { tag := tag, stage := .sampling, facts := facts, sampled := none, printed := none,
            generation := none, classFound := none, sum := 0, postage := 0 } })).setRecord tag
      (fun p => { p with state := .rating })
  | _, _ => s

/-- The admission conditions of R7 other than spacing. -/
def State.admits (s : State) (g : Settings) : Bool :=
  (s.pacing.lane == .running) && decide (s.track.records.length < 8) &&
    decide (g.feedFloor ≤ s.funds.spendable) && !s.rate.ratesBehind && !s.clock.invalid &&
    !s.clock.disagree && s.hasRoom && !s.link.duplicate &&
    (!s.track.notes.isEmpty || g.defaultNote.isSome)

/-- The spacing condition of R7. -/
def State.spaced (s : State) (g : Settings) : Bool :=
  match s.track.lastAdmission with
  | none => true
  | some c => reached s.io.encoder (after c (g.geometry.gap * s.throttleFactor))

/-- An OPEN gate closes with a grace distance when an admission condition other than spacing has ceased to
hold (R8). -/
def State.closeGate (s : State) : State :=
  if s.track.gateOpen &&
      !(match s.pacing.settings with
        | some g => s.admits g
        | none => false) then
    s.mapTrack (fun t => { t with gateOpen := false, grace := some s.io.encoder })
  else s

/-- The station is idle (R157). -/
def State.isIdle (s : State) : Bool :=
  (s.pacing.lane == .running) && s.track.records.isEmpty && s.track.notes.isEmpty && !s.pacing.button

/-- A HUSH is waiting, being sent, or sent and not yet reported (R157). -/
def Link.hushAsked (l : Link) : Bool :=
  l.full .hush ||
    match l.report with
    | some a => a.slot == .hush
    | none => false

/-- The idle timer follows the idle test; a station that ceases to be idle withdraws its waiting HUSH, and
asks for a HOLD while a window runs (R157, R158). -/
def State.followIdle (s : State) : State :=
  if s.isIdle then
    match s.pacing.settings with
    | some g =>
      if s.pacing.idleTimer.isNone && s.pacing.window.isNone && !s.link.hushAsked then
        s.mapPacing (fun p => { p with idleTimer := some g.idleSpan })
      else s
    | none => s
  else
    let s := s.mapPacing (fun p => { p with idleTimer := none })
    let s := if s.link.full .hush then s.withdraw .hush else s
    match s.pacing.window with
    | some w =>
      if w.holdAsked then s
      else
        (s.mapPacing (fun p => { p with window := some { w with holdAsked := true } })).request .hold
          .hold
    | none => s

/-- What follows a command within its step: the arbiter's grants (R79), the engine's next tag (R59), the
feed gate (R8), the idle test (R157). -/
def State.settle (s : State) : State := (((s.pump).takeTag).closeGate).followIdle

end Sys2Proof.Machine
end

