-- ==== Sys2Proof/Machine/Operands.lean ====
section
/-! DEFINITION. The judgement of operands: the checks of SETTLE (R1, R25, R124, R151, R172), of a segment
(R41 to R43, R47), and the values R175 makes a frame or lane port message disregarded for. -/

namespace Sys2Proof.Machine

/-- A value lies in a range, both ends included. -/
def inRange (low high v : Nat) : Bool := decide (low ≤ v) && decide (v ≤ high)

/-! ### Frames disregarded for a value (R175) -/

/-- CREDIT ASK: an amount of 1..99,999,999. -/
def askOk (amount : Nat) : Bool := inRange 1 Config.maxLot amount

/-- LOT PASS: passage number, amount and purpose; the purpose it names. -/
def lotOk (passage amount purpose : Nat) : Option Purpose :=
  if (passage != 0) && inRange 1 Config.maxLot amount then Purpose.ofCode purpose else none

/-- HOLDINGS: a lane state of 0..5 and a valid franking date. -/
def holdingsOk (h : HoldingsFrame) : Bool := decide (h.lane ≤ 5) && h.date.valid

/-! ### SETTLE (R151, R172) -/

/-- The default note's service codes: the first of the four up to the count (R172). -/
def settleServices (r : SettleRecord) : List Nat := r.noteServices.take r.noteCount

/-- The checks of a SETTLE, each with the field number it gives (R172): a relation gives the one of its
fields that comes last in the record (R151, log 32). -/
def settleChecks (r : SettleRecord) : List (Nat × Bool) :=
  let pos := inRange 1 16000
  [ (1, pos r.p0), (2, pos r.p1), (3, pos r.bar), (4, pos r.decision), (5, pos r.arm),
    (6, pos r.print), (7, pos r.exit),
    (2, decide (r.p0 < r.p1)), (3, decide (r.p1 < r.bar)), (4, decide (r.bar < r.decision)),
    (5, decide (r.decision < r.arm)), (6, decide (r.arm < r.print)), (7, decide (r.print < r.exit)) ] ++
  [ (8, inRange 20 2000 r.window), (9, inRange 4 400 r.tolerance),
    (9, decide (r.arm + r.tolerance < r.print)),
    (9, decide (r.print + r.window + r.tolerance < r.exit)),
    (10, inRange 0 2000 r.settleDistance), (11, inRange 40 4000 r.gap),
    (11, decide (2 * r.tolerance < r.gap)) ] ++
  [ (13, !r.notePresent || inRange 0 4 r.noteCount), (14, !r.notePresent || inRange 0 255 r.noteClass),
    (15, !r.notePresent || inRange 0 255 r.noteZone),
    (17, inRange 0 99999999 r.feedFloor), (18, inRange 0 50000 r.referenceZero),
    (19, inRange 4 32 r.minSamples), (20, inRange 1 500 r.steadiness) ] ++
  [ (21, inRange 0 99999999 r.lowMark), (22, inRange 0 999999999 r.keepAmount),
    (22, decide (r.lowMark ≤ r.keepAmount)), (23, inRange 1 99999999 r.askAmount),
    (24, inRange 100 10000 r.askTimeout), (25, inRange 0 65535 r.lineId), (26, inRange 5 600 r.idleSpan),
    (27, inRange 1 8 r.heatFactor), (28, inRange 1 8 r.creditFactor) ]

/-- The lowest field number among the failing checks, none when every check passes (R151). -/
def settleFailing (r : SettleRecord) : Option Nat :=
  (settleChecks r).foldl
    (fun low c =>
      if c.2 then low
      else
        match low with
        | none => some c.1
        | some m => some (min m c.1))
    none

/-- The settings an accepted SETTLE gives every block (R151). -/
def settingsOf (r : SettleRecord) : Settings :=
  { geometry :=
      { p0 := r.p0, p1 := r.p1, bar := r.bar, decision := r.decision, arm := r.arm, print := r.print,
        exit := r.exit, window := r.window, tolerance := r.tolerance,
        settleDistance := r.settleDistance, gap := r.gap },
    defaultNote :=
      if r.notePresent then
        some { classCode := r.noteClass, zone := r.noteZone, services := settleServices r, isDefault := true }
      else none,
    feedFloor := r.feedFloor, referenceZero := r.referenceZero, minSamples := r.minSamples,
    steadiness := r.steadiness, lowMark := r.lowMark, keepAmount := r.keepAmount,
    askAmount := r.askAmount, askTimeout := r.askTimeout, lineId := r.lineId, idleSpan := r.idleSpan,
    heatFactor := r.heatFactor, creditFactor := r.creditFactor }

/-! ### RATE BEGIN (R45) -/

/-- The values of a RATE BEGIN lie in their ranges (R45). -/
def beginOk (generation : Nat) (effective : Date) (rounding zones : Nat) : Bool :=
  inRange 1 65535 generation && effective.valid && inRange 1 1000 rounding && inRange 1 10 zones

/-! ### Segments (R47) -/

/-- The price a 3-byte field gives: FFFFFFh is NOT OFFERED (R169). -/
def priceOf (v : Nat) : Option Nat := if v = 0xFFFFFF then none else some v

/-- A price field is an amount of 0..999,999 or NOT OFFERED (R42). -/
def priceOk (v : Nat) : Bool := inRange 0 999999 v || (v == 0xFFFFFF)

/-- The condition a kind code and a threshold field give, if the threshold lies in the kind's range
(R43, R171). DESIGN CHOICE (log 47): R171 puts a service code in the threshold's second byte and says nothing of
the first; a first byte other than 0 is refused FIELD. -/
def conditionOf (kind threshold zones : Nat) : Option Condition :=
  match kind with
  | 1 => if threshold ≤ 255 then some (.service threshold) else none
  | 2 => if threshold ≤ 6000 then some (.thicknessOver threshold) else none
  | 3 => if threshold ≤ 40000 then some (.lengthOver threshold) else none
  | 4 => if threshold ≤ 20000 then some (.weightOver threshold) else none
  | 5 =>
    let low := threshold / 256
    let high := threshold % 256
    if 1 ≤ low ∧ low ≤ high ∧ high ≤ zones then some (.zoneRange low high) else none
  | _ => none

/-- The per-step amount must be 0 (R43). -/
def Condition.noSteps : Condition → Bool
  | .service _ => true
  | .zoneRange .. => true
  | _ => false

/-- The last class of a list changed. -/
def mapLast (f : RateClass → RateClass) : List RateClass → List RateClass
  | [] => []
  | [c] => [f c]
  | c :: rest => c :: mapLast f rest

/-- A class header checked and added (R47). -/
def Bank.addClass (b : Bank) (code w l wd t : Nat) : Except LoadReason Bank :=
  if 8 ≤ b.classes.length then .error .tooMany
  else if b.classes.any (fun c => c.code == code) then .error .duplicateClass
  else if inRange 1 20000 w && inRange 1 40000 l && inRange 1 6000 wd && inRange 1 6000 t then
    .ok { b with classes := b.classes ++
      [{ code := code, maxWeight := w, maxLength := l, maxWidth := wd, maxThickness := t,
         breaks := [] }] }
  else .error .field

/-- A break row checked and added to the class whose header was the last taken (R42, R47). -/
def Bank.addBreak (b : Bank) (limit : Nat) (prices : List Nat) : Except LoadReason Bank :=
  match b.classes.getLast? with
  | none => .error .order
  | some c =>
    if 24 ≤ c.breaks.length then .error .tooMany
    else if !(inRange 1 20000 limit && (prices.length == b.zones) && prices.all priceOk) then
      .error .field
    else if c.breaks.any (fun k => decide (limit ≤ k.limit)) then .error .order
    else
      let added : Break := { limit := limit, prices := prices.map priceOf }
      .ok { b with classes := mapLast (fun c => { c with breaks := c.breaks ++ [added] }) b.classes }

/-- A surcharge checked and added (R43, R47). DESIGN CHOICE (log 48): R171 has the unused class code bytes 0 and
names no refusal; they are not looked at. -/
def Bank.addSurcharge (b : Bank) (count : Nat) (codes : List Nat)
    (kind threshold fixed perStep step : Nat) : Except LoadReason Bank :=
  if 16 ≤ b.surcharges.length then .error .tooMany
  else
    match conditionOf kind threshold b.zones with
    | none => .error .field
    | some c =>
      if decide (count ≤ 8) && (!c.noSteps || (perStep == 0)) && inRange 0 999999 fixed &&
          inRange 0 999999 perStep && inRange 1 40000 step then
        .ok { b with surcharges := b.surcharges ++
          [{ classSet := if count = 0 then none else some (codes.take count), condition := c,
             fixed := fixed, perStep := perStep, step := step }] }
      else .error .field

/-- A segment checked by its kind and stored, or the broken reason (R47). -/
def Bank.addSegment (b : Bank) : Segment → Except LoadReason Bank
  | .classHeader code w l wd t => b.addClass code w l wd t
  | .breakRow limit prices => b.addBreak limit prices
  | .surcharge count codes kind threshold fixed perStep step =>
    b.addSurcharge count codes kind threshold fixed perStep step

end Sys2Proof.Machine
end

