-- ==== Sys2Proof/Machine/Weighing.lean ====
section
/-! DEFINITION. The weigh unit's commands (chapter 2): platform events, scale samples, the dimension bar. -/

namespace Sys2Proof.Machine

/-! ### Position events of a record (R2, R14) -/

/-- The position event of the record `tag` is taken once its count is reached and it has not been taken
before (R2, R14); `f` is its effect, given the record. -/
def State.atEvent (s : State) (tag : Nat) (taken : Marks → Bool) (position : Geometry → Nat)
    (f : Settings → Piece → State → State) : State :=
  match s.pacing.settings, s.track.find tag with
  | some g, some p =>
    if !taken p.marks && reached s.io.encoder (after p.lead (position g.geometry)) then f g p s else s
  | _, _ => s

/-- A position event of the record is marked as taken (R2). -/
def State.mark (s : State) (tag : Nat) (f : Marks → Marks) : State :=
  s.setRecord tag (fun p => { p with marks := f p.marks })

/-! ### The weigh window (R29 to R33) -/

/-- The sum of the zero history's 16 entries, so 16 times the zero offset (R25). -/
def Weigh.zeroSum (w : Weigh) : Nat := (w.zero.getD []).foldl (· + ·) 0

/-- A window just opened (R29). -/
def Window.opened : Window := { sum := 0, least := none, greatest := none, count := 0 }

/-- A sample filed to a window (R29). -/
def Window.add (w : Window) (v : Nat) : Window :=
  { sum := w.sum + v,
    least := some (min v (w.least.getD v)),
    greatest := some (max v (w.greatest.getD v)),
    count := w.count + 1 }

/-- The judgement of a window at its close (R32): the net weight in grams, kept exactly until it is rounded
up once, or the sub-reason of its failure. -/
def Window.judge (w : Window) (minSamples steadiness zeroSum : Nat) : Except WeighSub Nat :=
  if w.count < minSamples then .error .shortWindow
  else if steadiness < w.greatest.getD 0 - w.least.getD 0 then .error .unsteady
  else if 16 * w.sum ≤ w.count * zeroSum then .error .zero
  else
    let net := stepsOf (16 * w.sum - w.count * zeroSum) (160 * w.count)
    if Config.maxWeight < net then .error .overweight else .ok net

/-- The outcome of an entry handed to the track unit by tag (R33). -/
def State.weighOutcome (s : State) (tag : Nat) (o : Except WeighSub Nat) : State :=
  match o with
  | .ok grams => (s.setRecord tag (fun p => { p with weight := some grams })).becomeReady tag
  | .error sub => s.failRecord tag (.weighFail sub)

/-- The entries of a tag changed. -/
def Weigh.update (w : Weigh) (tag : Nat) (f : PlatformEntry → PlatformEntry) : Weigh :=
  { w with platform := w.platform.map (fun e => if e.tag == tag then f e else e) }

/-- An entry becomes DONE (R30, R31). -/
def State.entryDone (s : State) (tag : Nat) : State :=
  s.mapWeigh (fun w => w.update tag (fun e => { e with phase := .done }))

/-- An entry closed by a closing event (R30, R31): an OPEN window is judged, a WAITING entry fails with the
event's own sub-reason, a DONE entry stays as it is. -/
def State.closeEntry (s : State) (g : Settings) (e : PlatformEntry) (missed : WeighSub) : State :=
  match e.phase with
  | .done => s
  | .waiting => (s.entryDone e.tag).weighOutcome e.tag (.error missed)
  | .weighing w =>
    (s.entryDone e.tag).weighOutcome e.tag (w.judge g.minSamples g.steadiness s.weigh.zeroSum)

/-- PLATFORM_START_EVENT (R27, R31): the newest entry is closed and the record's own joins WAITING. -/
def execPlatformStartEvent (tag : Nat) (s : State) : Host.Outcome State Fault Refusal :=
  live s (fun s =>
    s.onlyIf s.pacing.lane.moving (fun s =>
      (s.atEvent tag Marks.platformStart Geometry.p0 (fun g p s =>
        let s := s.mark tag (fun m => { m with platformStart := true })
        let s :=
          match s.weigh.platform.getLast? with
          | some e => s.closeEntry g e .shortWindow
          | none => s
        s.mapWeigh (fun w =>
          { w with platform := w.platform ++
            [{ tag := tag, lead := p.lead, trail := p.trail, phase := .waiting }] }))).settle))

/-- WINDOW_OPENING (R29). -/
def execWindowOpening (tag : Nat) (s : State) : Host.Outcome State Fault Refusal :=
  live s (fun s =>
    match s.pacing.settings with
    | none => s
    | some g =>
      s.mapWeigh (fun w => w.update tag (fun e =>
        match e.phase, e.trail with
        | .waiting, some t =>
          if reached s.io.encoder (after t (g.geometry.p0 + g.geometry.settleDistance)) then
            { e with phase := .weighing .opened }
          else e
        | _, _ => e)))

/-- PLATFORM_END_EVENT (R30, R31). -/
def execPlatformEndEvent (tag : Nat) (s : State) : Host.Outcome State Fault Refusal :=
  live s (fun s =>
    (s.atEvent tag Marks.platformEnd Geometry.p1 (fun g _ s =>
      let s := s.mark tag (fun m => { m with platformEnd := true })
      match s.weigh.platform.find? (fun e => e.tag == tag) with
      | some e => s.closeEntry g e .overlong
      | none => s)).settle)

/-- PLATFORM_LEAVING (R27): the entry leaves whatever its phase, in any lane state. -/
def execPlatformLeaving (tag : Nat) (s : State) : Host.Outcome State Fault Refusal :=
  live s (fun s =>
    match s.pacing.settings with
    | none => s
    | some g =>
      s.mapWeigh (fun w =>
        { w with platform := w.platform.filter (fun e =>
            !((e.tag == tag) &&
              match e.trail with
              | some t => passed s.io.encoder (after t g.geometry.p1)
              | none => false)) }))

/-! ### Scale samples (R26, R34, R35) -/

/-- A sample filed to the open window of the platform list (R26, R29). -/
def PlatformEntry.addSample (v : Nat) (e : PlatformEntry) : PlatformEntry :=
  match e.phase with
  | .weighing w => { e with phase := .weighing (w.add v) }
  | _ => e

/-- The entry is OPEN. -/
def PlatformEntry.isOpen (e : PlatformEntry) : Bool :=
  match e.phase with
  | .weighing _ => true
  | _ => false

/-- The zero offset differs from the reference zero by more than 200 tenths (R35), compared 16-fold. -/
def zeroOut (zeroSum reference : Nat) : Bool :=
  decide (16 * Config.zeroDrift < zeroSum - 16 * reference) ||
    decide (16 * Config.zeroDrift < 16 * reference - zeroSum)

/-- An empty-platform sample (R34) and the comparison that follows it (R35). -/
def State.emptySample (s : State) (g : Settings) (v : Nat) : State :=
  let s := s.mapWeigh (fun w => { w with zero := w.zero.map (fun l => l.drop 1 ++ [v]) })
  if zeroOut s.weigh.zeroSum g.referenceZero then
    ((s.mapWeigh (fun w => { w with scaleZero := true })).raise .scaleZero).drain true false
  else s.mapWeigh (fun w => { w with scaleZero := false })

/-- SCALE_SAMPLE (R26). -/
def execScaleSample (value : Nat) (s : State) : Host.Outcome State Fault Refusal :=
  live s (fun s =>
    match s.pacing.settings with
    | none => s
    | some g =>
      if !s.pacing.lane.attends then s
      else if s.weigh.platform.any PlatformEntry.isOpen then
        s.mapWeigh (fun w => { w with platform := w.platform.map (PlatformEntry.addSample value) })
      else if s.weigh.platform.isEmpty then (s.emptySample g value).settle
      else s)

/-! ### The dimension bar (R36, R37) -/

/-- BAR_EVENT (R36). -/
def execBarEvent (tag : Nat) (s : State) : Host.Outcome State Fault Refusal :=
  live s (fun s =>
    s.atEvent tag Marks.bar Geometry.bar (fun _ _ s =>
      (s.mark tag (fun m => { m with bar := true })).mapWeigh (fun w =>
        { w with barQueue := w.barQueue ++ [tag] })))

/-- A bar message binds to the head of the bar queue, or is counted unbound (R36, R37); `f` is what it sets
on the record. -/
def State.barMessage (s : State) (f : Piece → Piece) : State :=
  match s.weigh.barQueue with
  | [] =>
    s.mapWeigh (fun w => { w with unboundBar := min Config.counterTop (w.unboundBar + 1) })
  | tag :: rest =>
    (((s.mapWeigh (fun w => { w with barQueue := rest })).setRecord tag f).becomeReady tag).settle

/-- BAR_READING (R36): above 6,000 tenths in either value it binds as a NO READ (R175). -/
def execBarReading (width thickness : Nat) (s : State) : Host.Outcome State Fault Refusal :=
  live s (fun s =>
    s.onlyIf s.pacing.lane.moving (fun s =>
      s.barMessage (fun p =>
        if width ≤ 6000 ∧ thickness ≤ 6000 then
          { p with width := some width, thickness := some thickness }
        else p)))

/-- BAR_NO_READ (R37). -/
def execBarNoRead (s : State) : Host.Outcome State Fault Refusal :=
  live s (fun s => s.onlyIf s.pacing.lane.moving (fun s => s.barMessage (fun p => p)))

end Sys2Proof.Machine
end

