-- ==== Sys2Proof/Machine/Rating.lean ====
section
/-! DEFINITION. The rating engine's commands (chapter 4): the date sample, the choice of a bank with the
stages that price the piece, the reservation. -/

namespace Sys2Proof.Machine

/-- A stage that fails ends the rating (R66). -/
def State.failRating (s : State) (r : Rating) (reason : DivertReason) : State :=
  (s.failRecord r.tag reason).mapEngine (fun e => { e with rating := none })

/-- The date clock's answer to the sample of stage 1 (R60). -/
def State.answerSample (s : State) : State :=
  match s.engine.rating with
  | none => s
  | some r =>
    if r.stage ≠ .sampling then s
    else if s.clock.invalid then s.failRating r .clock
    else
      match s.clock.date.plus s.clock.postdate with
      | none => s.failRating r .clock
      | some printed =>
        let next : Rating :=
          { r with stage := .choosing, sampled := some s.clock.date, printed := some printed }
        (s.setRecord r.tag (fun p =>
          { p with sampled := some s.clock.date, printed := some printed })).mapEngine
            (fun e => { e with rating := some next })

/-- The engine waits on a date sample for the tag (R59). -/
def Engine.sampling (e : Engine) (tag : Nat) : Bool :=
  match e.rating with
  | some r => (r.tag == tag) && (r.stage == .sampling)
  | none => false

/-- DATE_SAMPLE_ANSWER (R60): a sample asked for during an update is answered at its completion (R141,
log 14); one that no rating waits for is disregarded (R70). -/
def execDateSampleAnswer (tag : Nat) (s : State) : Host.Outcome State Fault Refusal :=
  live s (fun s =>
    s.onlyIf (!s.clock.updating && s.engine.sampling tag) (fun s => s.answerSample.settle))

/-- Stage 2 names the bank chosen (R53, R61): its reference mark and the record's generation. -/
def State.nameBank (s : State) (i : BankId) (tag : Nat) : State :=
  (s.mapRate (fun r => r.mapBank i (fun b => { b with named := true }))).setRecord tag
    (fun p => { p with generation := (s.rate.bank i).generation })

/-- Stages 3 to 8 on the named bank (R62 to R66). -/
def State.priceStages (s : State) (r : Rating) (i : BankId) : State :=
  let r := { r with generation := (s.rate.bank i).generation }
  match (s.rate.bank i).price r.facts with
  | .error reason => s.failRating r reason
  | .ok (code, sum, postage) =>
    let next : Rating :=
      { r with stage := .reserving, classFound := some code, sum := sum, postage := postage }
    s.mapEngine (fun e => { e with rating := some next })

/-- Stages 2 to 8 of a rating (R61). -/
def State.chooseBank (s : State) (r : Rating) : State :=
  match r.printed.bind s.rate.choose with
  | none => s.failRating r .noRates
  | some i => (s.nameBank i r.tag).priceStages r i

/-- BANK_CHOICE (R61 to R66). -/
def execBankChoice (s : State) : Host.Outcome State Fault Refusal :=
  live s (fun s =>
    match s.engine.rating with
    | some r => s.onlyIf (r.stage == .choosing) (fun s => (s.chooseBank r).settle)
    | none => s)

/-- The unfunded list with one more tag, in track order (R68). -/
def State.joinUnfunded (s : State) (tag : Nat) : State :=
  s.mapFunds (fun f =>
    { f with unfunded :=
      (s.track.records.filter (fun p => (p.tag == tag) || f.unfunded.contains p.tag)).map Piece.tag })

/-- The reservation refused (R67): RATED UNFUNDED, on the unfunded list, told to the credit unit. -/
def State.refuseReservation (s : State) (tag postage : Nat) : State :=
  ((s.setRecord tag (fun p =>
    { p with postage := some postage, state := .ratedUnfunded })).joinUnfunded tag).askingTest

/-- The funds store's judgement of a reservation (R67). -/
def State.reserve (s : State) (tag postage : Nat) : State :=
  match s.track.find tag with
  | none => s
  | some p =>
    if p.state ≠ .rating then s
    else if postage ≤ s.funds.spendable then (s.grantReservation tag postage).reportSpendable
    else s.refuseReservation tag postage

/-- RESERVATION_REQUEST (R67): with the answer the engine is IDLE. -/
def execReservationRequest (s : State) : Host.Outcome State Fault Refusal :=
  live s (fun s =>
    match s.engine.rating with
    | some r =>
      s.onlyIf (r.stage == .reserving) (fun s =>
        (((s.mapEngine (fun e => { e with rating := none })).reserve r.tag r.postage)).settle)
    | none => s)

end Sys2Proof.Machine
end

