-- ==== Sys2Proof/Machine/Belt.lean ====
section
/-! DEFINITION. The belt's commands (chapter 1): encoder steps, eye edges, the feed gate, notes, the
decision point, jams. -/

namespace Sys2Proof.Machine

/-! ### The encoder and the eyes (R2, R3) -/

/-- The latch of an eye takes an edge with the present count (R3). -/
def Io.stampEye (i : Io) (eye : Eye) (edge : Edge) : Io :=
  let latch : EyeLatch := { edge := some edge, stamp := some i.encoder }
  match eye with
  | .infeed => { i with infeed := latch }
  | .print => { i with print := latch }
  | .exit => { i with exit := latch }

/-- An edge seen by an eye is stamped (R3). -/
def State.stampEye (s : State) (eye : Eye) (edge : Edge) : State := s.mapIo (fun i => i.stampEye eye edge)

/-- The eye of a downstream eye. -/
def downEye : DownEye → Eye
  | .print => .print
  | .exit => .exit

/-- ENCODER_STEP (R2). -/
def execEncoderStep (dir : Travel) (s : State) : Host.Outcome State Fault Refusal :=
  live s (fun s =>
    s.mapIo (fun i =>
      { i with encoder :=
          match dir with
          | .forward => i.encoder + 1
          | .reverse => i.encoder - 1 }))

/-! ### Admission (R6, R8, R10) -/

/-- The note bound at an admission (R6). -/
def State.boundNote (s : State) (g : Settings) : Option Note :=
  match s.track.notes with
  | n :: _ => some n
  | [] => g.defaultNote

/-- A new piece record (R10). -/
def newPiece (tag : Nat) (lead : Count) (note : Option Note) : Piece :=
  { tag := tag, lead := lead, trail := none, length := none, note := note, weight := none, width := none,
    thickness := none, sampled := none, printed := none, generation := none, postage := none,
    reserved := false, pieceNumber := none,
    state := if note.isSome then .entering else .failed,
    reason := if note.isSome then none else some (.divert .noNote),
    imprint := none,
    marks :=
      { platformStart := false, platformEnd := false, bar := false, decision := false, arm := false,
        windowEnd := false } }

/-- An infeed lead edge admitted (R8, R10). -/
def State.takeIn (s : State) (g : Settings) : State :=
  let lead := s.io.encoder
  let tag := s.track.tagCounter
  let note := s.boundNote g
  s.mapTrack (fun t =>
    { t with
      records := t.records ++ [newPiece tag lead note],
      notes := t.notes.drop 1,
      gateOpen := false,
      grace := none,
      lastAdmission := some lead,
      tagCounter := (tag + 1) % 256,
      printExpected := t.printExpected ++ [{ tag := tag, count := after lead g.geometry.print }],
      exitExpected := t.exitExpected ++ [{ tag := tag, count := after lead g.geometry.exit }] })

/-- Within the grace distance of a closed gate (R8). -/
def State.inGrace (s : State) (g : Settings) : Bool :=
  match s.track.grace with
  | some c => !passed s.io.encoder (after c g.geometry.tolerance)
  | none => false

/-- INFEED_LEAD_EDGE (R10): admitted with the gate OPEN or in its grace, a STRAY PIECE otherwise (R17). DESIGN CHOICE
(log 61): R8 ends the grace at the first infeed lead edge after the closing, R3 has an edge in READY, QUIET or STOPPED
disregarded; such an edge leaves the grace in force. -/
def execInfeedLeadEdge (s : State) : Host.Outcome State Fault Refusal :=
  live s (fun s =>
    let s := s.stampEye .infeed .lead
    s.onlyIf s.pacing.lane.moving (fun s =>
      match s.pacing.settings with
      | none => s
      | some g =>
        (if s.track.gateOpen || s.inGrace g then s.takeIn g else s.stray .infeed).settle))

/-- The newest record completed by an infeed trail edge (R11); lengths in twentieths of a millimetre. -/
def Piece.trailed (p : Piece) (c : Count) : Piece :=
  { p with trail := some c, length := some (travel p.lead c * 5),
           state := if p.state = .entering then .measuring else p.state }

/-- The trail count is copied into the platform entry of the tag (R27, R28). -/
def Weigh.takeTrail (w : Weigh) (tag : Nat) (c : Count) : Weigh :=
  w.update tag (fun e => if e.trail.isNone then { e with trail := some c } else e)

/-- A divert hold waiting on its trail edge takes it (R11, R19, R28). -/
def State.trailForHold (s : State) (g : Settings) : State :=
  match s.track.divertHold with
  | some (.onTrail tag) =>
    (s.mapTrack (fun t =>
      { t with divertHold := some (.untilCount (after s.io.encoder g.geometry.decision)) })).mapWeigh
        (fun w => w.takeTrail tag s.io.encoder)
  | _ => s

/-- INFEED_TRAIL_EDGE (R11). -/
def execInfeedTrailEdge (s : State) : Host.Outcome State Fault Refusal :=
  live s (fun s =>
    let s := s.stampEye .infeed .trail
    s.onlyIf s.pacing.lane.moving (fun s =>
      match s.pacing.settings with
      | none => s
      | some g =>
        match s.track.records.getLast? with
        | none => s.trailForHold g
        | some p =>
          if p.trail.isSome then s.trailForHold g
          else
            ((((s.setRecord p.tag (fun p => p.trailed s.io.encoder)).mapWeigh (fun w =>
              w.takeTrail p.tag s.io.encoder)).becomeReady p.tag)).settle))

/-! ### Downstream eyes (R15 to R17, R21) -/

/-- The expectation list of a downstream eye. -/
def Track.expected (t : Track) : DownEye → List Expectation
  | .print => t.printExpected
  | .exit => t.exitExpected

/-- The oldest expectation leaves the list of an eye (R15). -/
def Track.matchOldest (t : Track) : DownEye → Track
  | .print => { t with printExpected := t.printExpected.drop 1 }
  | .exit => { t with exitExpected := t.exitExpected.drop 1 }

/-- A record's arrival at a downstream eye (R15, R21, R100). -/
def State.arrive (s : State) (eye : DownEye) (tag : Nat) : State :=
  match s.track.find tag with
  | none => s
  | some p =>
    match eye with
    | .print => s.printEvent p
    | .exit => s.exitRecord p

/-- DOWNSTREAM_LEAD_EDGE (R15). -/
def execDownstreamLeadEdge (eye : DownEye) (s : State) : Host.Outcome State Fault Refusal :=
  live s (fun s =>
    let s := s.stampEye (downEye eye) .lead
    s.onlyIf s.pacing.lane.moving (fun s =>
      match s.pacing.settings with
      | none => s
      | some g =>
        (match s.track.expected eye with
          | e :: _ =>
            if near e.count s.io.encoder g.geometry.tolerance then
              (s.mapTrack (fun t => t.matchOldest eye)).arrive eye e.tag
            else s.stray (downEye eye)
          | [] => s.stray (downEye eye)).settle))

/-- DOWNSTREAM_TRAIL_EDGE (R15): stamped (R3) and disregarded. -/
def execDownstreamTrailEdge (eye : DownEye) (s : State) : Host.Outcome State Fault Refusal :=
  live s (fun s => s.stampEye (downEye eye) .trail)

/-- JAM (R16): the belt has passed the oldest expectation plus the tolerance. -/
def execJam (eye : DownEye) (s : State) : Host.Outcome State Fault Refusal :=
  live s (fun s =>
    match s.pacing.settings, s.track.expected eye with
    | some g, e :: _ =>
      s.onlyIf (passed s.io.encoder (after e.count g.geometry.tolerance)) (fun s =>
        ((s.raise (.jam (downEye eye) e.tag)).stop).settle)
    | _, _ => s)

/-! ### The feed gate (R7 to R9) -/

/-- FEED_GATE_OPEN (R7). -/
def execFeedGateOpen (s : State) : Host.Outcome State Fault Refusal :=
  live s (fun s =>
    match s.pacing.settings with
    | none => s
    | some g =>
      s.onlyIf (!s.track.gateOpen && s.admits g && s.spaced g) (fun s =>
        s.mapTrack (fun t =>
          { t with gateOpen := true, openingCount := some s.io.encoder,
                   noteWaited := !t.notes.isEmpty })))

/-- FEED_MISS (R9): the belt has passed the opening count plus 4,000 with the gate OPEN. -/
def execFeedMiss (s : State) : Host.Outcome State Fault Refusal :=
  live s (fun s =>
    match s.track.openingCount with
    | none => s
    | some c =>
      s.onlyIf (s.track.gateOpen && passed s.io.encoder (after c Config.feedMissTravel)) (fun s =>
        s.mapTrack (fun t =>
          { t with
            gateOpen := false,
            grace := none,
            feedMisses :=
              if t.noteWaited then min Config.counterTop (t.feedMisses + 1) else t.feedMisses })))

/-- GRACE_END (R8): the belt has passed the closing count plus the eye tolerance. -/
def execGraceEnd (s : State) : Host.Outcome State Fault Refusal :=
  live s (fun s =>
    match s.pacing.settings, s.track.grace with
    | some g, some c =>
      s.onlyIf (passed s.io.encoder (after c g.geometry.tolerance)) (fun s =>
        s.mapTrack (fun t => { t with grace := none }))
    | _, _ => s)

/-- NOTE_ARRIVAL (R5): a note of more than four service codes is disregarded (R175); one that joins while the
lane is QUIET wakes it (R159). -/
def execNoteArrival (classCode zone : Nat) (services : List Nat) (s : State) :
    Host.Outcome State Fault Refusal :=
  live s (fun s =>
    if 4 < services.length then s
    else if s.readerReady then
      let s := s.mapTrack (fun t =>
        { t with notes := t.notes ++
          [{ classCode := classCode, zone := zone, services := services, isDefault := false }] })
      (if s.pacing.lane = .quiet then s.wakeOwn else s).settle
    else s.raise .noteOverrun)

/-! ### The decision point (R18, R19) -/

/-- The dimensions are present (R18). -/
def Piece.measured (p : Piece) : Bool := p.length.isSome && p.width.isSome && p.thickness.isSome

/-- The judgement of a record at its decision event, by the first test of R18 that applies: a divert reason,
or none for ACCEPTED. -/
def State.judgeDecision (s : State) (p : Piece) : Option DivertReason :=
  match p.state, p.reason with
  | .failed, some (.divert r) => some r
  | st, _ =>
    if s.print.headFault then some .headFault
    else if (s.pacing.lane == .draining) && s.pacing.drainScale then some .drain
    else if !p.measured then some .noDimensions
    else
      match st with
      | .ratedUnfunded => some .noFunds
      | .rated =>
        if s.clock.invalid then some .clock
        else if !s.dateHolds p then some .datePassed
        else none
      | _ => some .notRated

/-- DECISION_EVENT (R18): the record is ACCEPTED, or diverted with its reason (R19). -/
def execDecisionEvent (tag : Nat) (s : State) : Host.Outcome State Fault Refusal :=
  live s (fun s =>
    (s.atEvent tag Marks.decision Geometry.decision (fun g p s =>
      match s.judgeDecision p with
      | some reason => s.divert g.geometry p reason
      | none =>
        s.setRecord tag (fun p =>
          { p with state := .accepted, marks := { p.marks with decision := true } }))).settle)

/-- DIVERT_HOLD_END (R19). -/
def execDivertHoldEnd (s : State) : Host.Outcome State Fault Refusal :=
  live s (fun s =>
    match s.track.divertHold with
    | some (.untilCount c) =>
      s.onlyIf (reached s.io.encoder c) (fun s => s.mapTrack (fun t => { t with divertHold := none }))
    | _ => s)

end Sys2Proof.Machine
end

