-- ==== Sys2Proof/Machine/Printing.lean ====
section
/-! DEFINITION. The print path's commands (chapter 6): the arm event, the end of the print window, the
head's messages. -/

namespace Sys2Proof.Machine

/-- The judgement at the arm point: a cause for PASSED UNPRINTED, or none for ARMED (R95). -/
def State.armJudgement (s : State) (p : Piece) : Option PassCause :=
  if s.print.headFault then some .headFault
  else if s.clock.invalid then some .clock
  else if !s.dateHolds p then some .datePassed
  else if !s.print.headReady then some .headNotReady
  else none

/-- A record ARMED: its entry on the armed list and its DEBIT claim (R81, R95). -/
def State.armRecord (s : State) (p : Piece) : State :=
  let postage := p.postage.getD 0
  let entry : Armed :=
    { tag := p.tag, postage := postage, facts := p.facts, printEvent := none, provisional := none }
  ((s.setRecord p.tag (fun q => { q with state := .armed })).mapPrint (fun q =>
    { q with armed := q.armed ++ [entry] })).claim (.debit p.tag postage p.facts)

/-- ARM_EVENT (R95): taken for an ACCEPTED record with no outcome (R14). -/
def execArmEvent (tag : Nat) (s : State) : Host.Outcome State Fault Refusal :=
  live s (fun s =>
    (s.atEvent tag Marks.arm Geometry.arm (fun _ p s =>
      let s := s.mark tag (fun m => { m with arm := true })
      if (p.state == .accepted) && !p.hasOutcome then
        match s.armJudgement p with
        | some cause => s.passUnprinted p cause
        | none => s.armRecord p
      else s)).settle)

/-- END_OF_PRINT_WINDOW (R102): an ARMED record with no provisional outcome takes SPOILED NO PRINT. -/
def execEndOfPrintWindow (tag : Nat) (s : State) : Host.Outcome State Fault Refusal :=
  live s (fun s =>
    s.atEvent tag Marks.windowEnd (fun g => g.print + g.window) (fun _ p s =>
      let s := s.mark tag (fun m => { m with windowEnd := true })
      if p.state = .armed then
        s.mapPrint (fun q =>
          { q with armed := q.armed.map (fun a =>
              if (a.tag == tag) && a.provisional.isNone then { a with provisional := some .noPrint }
              else a) })
      else s))

/-- HEAD_READY (R94): the HEAD FAULT condition may end (R105). -/
def execHeadReady (s : State) : Host.Outcome State Fault Refusal :=
  live s (fun s => (s.mapPrint (fun p => { p with headReady := true })).headFaultEnd)

/-- HEAD_NOT_READY (R94). -/
def execHeadNotReady (s : State) : Host.Outcome State Fault Refusal :=
  live s (fun s => s.mapPrint (fun p => { p with headReady := false }))

/-- The printing list's entry of a piece number. -/
def Print.entryOf (p : Print) (piece : Nat) : Option Printing :=
  p.printing.find? (fun e => e.piece == piece)

/-- A piece number leaves the printing list. -/
def State.endPrinting (s : State) (piece : Nat) : State :=
  s.mapPrint (fun p => { p with printing := p.printing.filter (fun e => e.piece != piece) })

/-- PRINT_DONE (R103). -/
def execPrintDone (piece : Nat) (s : State) : Host.Outcome State Fault Refusal :=
  live s (fun s =>
    match s.print.entryOf piece with
    | some e => (s.endPrinting piece).setRecord e.tag (fun p => { p with state := .printed })
    | none => s)

/-- PRINT_FAULT (R104): a cause outside 1..3 is disregarded (R175). -/
def execPrintFault (piece cause : Nat) (s : State) : Host.Outcome State Fault Refusal :=
  live s (fun s =>
    match HeadCause.ofCode cause, s.print.entryOf piece with
    | some c, some e =>
      let s := s.endPrinting piece
      let s :=
        match s.track.find e.tag with
        | some p => s.spoil p (.printFault c)
        | none => s
      (s.raiseHeadFault piece (.head c)).settle
    | _, _ => s)

end Sys2Proof.Machine
end

