-- ==== Sys2Proof/Machine/StoreWrites.lean ====
section
/-! DEFINITION. The completions of the funds store's writes (R81 to R89) and the joining of waiting journal
entries (R52, R147). A command whose kind of write is not in progress changes nothing (log 2). -/

namespace Sys2Proof.Machine

/-- The write in progress, if `kind` accepts it, ends with its read-back; the arbiter goes on (R77, R79). -/
def State.completeWrite (s : State) (kind : Claim → Bool) (readBack : Bool) : State :=
  match s.funds.arbiter.writing with
  | some c => s.onlyIf (kind c) (fun s => (s.endWrite c readBack).settle)
  | none => s

/-- A DEBIT. -/
def Claim.isDebit : Claim → Bool
  | .debit .. => true
  | _ => false
/-- A LOT IN. -/
def Claim.isLotIn : Claim → Bool
  | .lotIn .. => true
  | _ => false
/-- A REFILL. -/
def Claim.isRefill : Claim → Bool
  | .refill .. => true
  | _ => false
/-- A LOT OUT START. -/
def Claim.isLotOutStart : Claim → Bool
  | .lotOutStart .. => true
  | _ => false
/-- A LOT OUT END. -/
def Claim.isLotOutEnd : Claim → Bool
  | .lotOutEnd .. => true
  | _ => false
/-- A SETTLE NOT TAKEN. -/
def Claim.isSettleNotTaken : Claim → Bool
  | .settleNotTaken .. => true
  | _ => false
/-- A RUN MARK. -/
def Claim.isRunMark : Claim → Bool
  | .runMark _ => true
  | _ => false
/-- A JOURNAL APPEND. -/
def Claim.isAppend : Claim → Bool
  | .journalAppend => true
  | _ => false

/-- DEBIT_COMPLETE (R81, R98). -/
def execDebitComplete (readBack : Bool) (s : State) : Host.Outcome State Fault Refusal :=
  live s (fun s => s.completeWrite Claim.isDebit readBack)

/-- LOT_IN_COMPLETE (R83, R133). -/
def execLotInComplete (readBack : Bool) (s : State) : Host.Outcome State Fault Refusal :=
  live s (fun s => s.completeWrite Claim.isLotIn readBack)

/-- REFILL_COMPLETE (R84, R137). -/
def execRefillComplete (readBack : Bool) (s : State) : Host.Outcome State Fault Refusal :=
  live s (fun s => s.completeWrite Claim.isRefill readBack)

/-- LOT_OUT_START_COMPLETE (R85, R118). -/
def execLotOutStartComplete (readBack : Bool) (s : State) : Host.Outcome State Fault Refusal :=
  live s (fun s => s.completeWrite Claim.isLotOutStart readBack)

/-- LOT_OUT_END_COMPLETE (R86, R134, R139). -/
def execLotOutEndComplete (readBack : Bool) (s : State) : Host.Outcome State Fault Refusal :=
  live s (fun s => s.completeWrite Claim.isLotOutEnd readBack)

/-- SETTLE_NOT_TAKEN_COMPLETE (R87, R135). -/
def execSettleNotTakenComplete (readBack : Bool) (s : State) : Host.Outcome State Fault Refusal :=
  live s (fun s => s.completeWrite Claim.isSettleNotTaken readBack)

/-- RUN_MARK_COMPLETE (R88). -/
def execRunMarkComplete (readBack : Bool) (s : State) : Host.Outcome State Fault Refusal :=
  live s (fun s => s.completeWrite Claim.isRunMark readBack)

/-- JOURNAL_APPEND_COMPLETE (R89, R162). -/
def execJournalAppendComplete (readBack : Bool) (s : State) : Host.Outcome State Fault Refusal :=
  live s (fun s => s.completeWrite Claim.isAppend readBack)

/-- The entry whose offer was refused first joins the queue when the queue can take it (R89, log 25). -/
def State.joinWaiting (s : State) (w : Waiter) (entry : Option Entry) (clear : State → State) : State :=
  match entry with
  | some e =>
    s.onlyIf (s.canTake && (s.funds.waiters.head? == some w)) (fun s =>
      (((clear s).mapFunds (fun f => { f with waiters := f.waiters.drop 1 })).offer e).settle)
  | none => s

/-- BANK_SWITCH_ENTRY_JOIN (R52, R89). -/
def execBankSwitchEntryJoin (s : State) : Host.Outcome State Fault Refusal :=
  live s (fun s =>
    s.joinWaiting .bankSwitch s.rate.waitingSwitch (fun s =>
      s.mapRate (fun r => { r with waitingSwitch := none })))

/-- DATE_SET_ENTRY_JOIN (R89, R147). -/
def execDateSetEntryJoin (s : State) : Host.Outcome State Fault Refusal :=
  live s (fun s =>
    s.joinWaiting .dateSet s.clock.waitingEntry (fun s =>
      s.mapClock (fun c => { c with waitingEntry := none })))

end Sys2Proof.Machine
end

