-- ==== Sys2Proof/Machine/Tariff.lean ====
section
/-! DEFINITION. The rate frames (R45 to R50). A MUTE station disregards one addressed to it (R122). -/

namespace Sys2Proof.Machine

/-- A frame from the console that may be broadcast or addressed: with the dispatch closed it is discarded
(R119), and a MUTE station takes no addressed one (R122). -/
def State.consoleFrame (s : State) (addressed : Bool) (f : State → State) : State :=
  if !s.link.dispatchOpen || (addressed && s.link.mute) then s.answerIf addressed false else f s

/-- A rate frame that raises LOAD FAILED is not acknowledged (R50). -/
def State.refuseRate (s : State) (addressed : Bool) (reason : LoadReason) : State :=
  (s.loadFailed reason).answerIf addressed false

/-- The judgement of a RATE BEGIN, by the first test of R45 that applies; none when it is taken. -/
def State.beginRefusal (s : State) (generation : Nat) (effective : Date) (rounding zones : Nat) :
    Option LoadReason :=
  let r := s.rate
  if !beginOk generation effective rounding zones then some .field
  else if (r.findBank Bank.isLoading).isSome then some .loadingBusy
  else if (r.findBank Bank.isPending).isSome then some .pendingHeld
  else if (r.findBank Bank.isFree).isNone then some .noFreeBank
  else if [r.bankA, r.bankB].any (fun b =>
      !b.isFree && decide (generation ≤ b.generation.getD 0)) then some .generation
  else if s.clock.invalid then some .clock
  else if s.clock.date.atOrAfter effective then some .effectiveDate
  else none

/-- A bank as a RATE BEGIN opens it (R45). -/
def Bank.opened (generation : Nat) (effective : Date) (rounding zones : Nat) : Bank :=
  { state := .loading { taken := 0, check := 0xFFFF#16, broken := none }, generation := some generation,
    effective := some effective, rounding := rounding, zones := zones, classes := [], surcharges := [],
    named := false }

/-- RATE_BEGIN (R45). -/
def execRateBegin (addressed : Bool) (generation : Nat) (effective : Date) (rounding zones : Nat)
    (s : State) : Host.Outcome State Fault Refusal :=
  live s (fun s =>
    s.consoleFrame addressed (fun s =>
      match s.beginRefusal generation effective rounding zones, s.rate.findBank Bank.isFree with
      | some reason, _ => s.refuseRate addressed reason
      | none, some i =>
        (s.mapRate (fun r =>
          r.mapBank i (fun _ => .opened generation effective rounding zones))).answerIf addressed true
      | none, none => s))

/-- The LOADING bank of a generation with its load progress (R46, R48). -/
def Rate.loadOf (r : Rate) (generation : Nat) : Option (BankId × LoadProgress) :=
  match r.findBank Bank.isLoading with
  | none => none
  | some i =>
    match (r.bank i).state with
    | .loading p => if (r.bank i).generation = some generation then some (i, p) else none
    | _ => none

/-- The load of a bank takes a broken reason, and LOAD FAILED is raised (R46, R47). -/
def State.breakLoad (s : State) (addressed : Bool) (i : BankId) (p : LoadProgress)
    (reason : LoadReason) : State :=
  (s.mapRate (fun r =>
    r.mapBank i (fun b => { b with state := .loading { p with broken := some reason } }))).refuseRate
      addressed reason

/-- A segment that passes is stored; the count rises and the running check is carried on (R46). -/
def State.storeSegment (s : State) (i : BankId) (p : LoadProgress) (b : Bank) (seg : Segment) : State :=
  let next : LoadProgress :=
    { taken := p.taken + 1, check := checkBytes p.check (segmentBytes seg), broken := none }
  s.mapRate (fun r => r.mapBank i (fun _ => { b with state := .loading next }))

/-- RATE_LOAD (R46, R47): a repeat is acknowledged when addressed, a frame of a broken load is not (R50,
log 23). -/
def execRateLoad (addressed : Bool) (generation index : Nat) (segment : Segment) (s : State) :
    Host.Outcome State Fault Refusal :=
  live s (fun s =>
    s.consoleFrame addressed (fun s =>
      match s.rate.loadOf generation with
      | none => s.refuseRate addressed .notLoading
      | some (i, p) =>
        if p.broken.isSome then s.answerIf addressed false
        else if index < p.taken then s.answerIf addressed true
        else if p.taken < index then s.breakLoad addressed i p .segmentMissing
        else
          match (s.rate.bank i).addSegment segment with
          | .error reason => s.breakLoad addressed i p reason
          | .ok b => (s.storeSegment i p b segment).answerIf addressed true))

/-- The reason for which a RATE FINISH frees its bank, none when the bank becomes PENDING (R48). -/
def Bank.finishRefusal (b : Bank) (p : LoadProgress) (count check : Nat) : Option LoadReason :=
  match p.broken with
  | some reason => some reason
  | none =>
    if count ≠ p.taken then some .segmentMissing
    else if check ≠ p.check.toNat then some .check
    else if b.classes.isEmpty || b.classes.any (fun c => c.breaks.isEmpty) then some .incomplete
    else none

/-- RATE_FINISH (R48): the bank becomes PENDING, HOLDINGS is asked for and the switch test made; or the
bank becomes FREE. -/
def execRateFinish (addressed : Bool) (generation count check : Nat) (s : State) :
    Host.Outcome State Fault Refusal :=
  live s (fun s =>
    s.consoleFrame addressed (fun s =>
      match s.rate.loadOf generation with
      | none => s.refuseRate addressed .notLoading
      | some (i, p) =>
        if s.rate.waitingSwitch.isSome then s.refuseRate addressed .journal
        else
          match (s.rate.bank i).finishRefusal p count check with
          | some reason => (s.mapRate (fun r => r.mapBank i Bank.freed)).refuseRate addressed reason
          | none =>
            (((((s.mapRate (fun r =>
              r.mapBank i (fun b => { b with state := .pending }))).askHoldings false).switchTest).answerIf
                addressed true)).settle))

/-- RATE_DROP (R49). -/
def execRateDrop (addressed : Bool) (generation : Nat) (s : State) : Host.Outcome State Fault Refusal :=
  live s (fun s =>
    s.consoleFrame addressed (fun s =>
      match s.rate.findBank (fun b => b.holdsGen generation) with
      | none => s.refuseRate addressed .noSuchBank
      | some i =>
        let b := s.rate.bank i
        if b.isLoading then (s.mapRate (fun r => r.mapBank i Bank.freed)).answerIf addressed true
        else if b.isPending then
          if b.named then s.refuseRate addressed .inUse
          else
            ((s.mapRate (fun r => r.mapBank i Bank.freed)).askHoldings false).answerIf addressed true
        else s.refuseRate addressed .isProtected))

end Sys2Proof.Machine
end

