-- ==== Sys2Proof/Machine/DateClock.lean ====
section
/-! DEFINITION. The date clock's commands (chapter 9): its update, day turns, DATE SET, POSTDATE. -/

namespace Sys2Proof.Machine

/-! ### Advances (R142, R145) -/

/-- CLOCK INVALID is made current and its sticky fault raised (R149). -/
def State.raiseClockInvalid (s : State) : State :=
  (s.mapClock (fun c => { c with invalid := true })).raise .clockInvalid

/-- An advance reported to rate memory and the credit unit (R145). -/
def State.reportAdvance (s : State) : State := (s.switchTest).askHoldings false

/-- A local day turn (R143): the date advances at midnight, with a DAY TURN unless it has been heard; past
2099-12-31 the clock becomes invalid (R142). -/
def State.localTurn (s : State) : State :=
  match s.clock.date.next with
  | none => (s.mapClock (fun c => { c with time := .midnight })).raiseClockInvalid
  | some d =>
    let s := s.mapClock (fun c => { c with date := d, time := .midnight })
    let s := if s.clock.heardTurn = some d then s else s.request .dayTurn (.dayTurn d)
    s.reportAdvance

/-- The second that an update counts (R141, R143). -/
def State.countSecond (s : State) : State :=
  if s.clock.time.isLast && !s.clock.invalid then s.localTurn
  else s.mapClock (fun c => { c with time := c.time.tick })

/-! ### A heard DAY TURN (R144, R146) -/

/-- CLOCK DISAGREE is raised (R146). -/
def State.raiseDisagree (s : State) (heard : Date) : State :=
  (s.raise (.clockDisagree heard s.clock.date s.clock.time)).mapClock
    (fun c => { c with disagree := true })

/-- The station follows a heard DAY TURN (R144): it advances, and withdraws a DAY TURN of its own. -/
def State.followTurn (s : State) (d : Date) : State :=
  ((s.mapClock (fun c => { c with date := d, time := .midnight })).withdraw .dayTurn).reportAdvance

/-- A heard DAY TURN judged (R144). -/
def State.takeDayTurn (s : State) (d : Date) : State :=
  if s.clock.invalid || !d.valid then s
  else
    let s := s.mapClock (fun c => { c with heardTurn := some d })
    if d = s.clock.date then s
    else if s.clock.date.next = some d && s.clock.time.nearMidnight then s.followTurn d
    else s.raiseDisagree d

/-! ### POSTDATE (R148) -/

/-- A POSTDATE taken (R148). -/
def State.takePostdate (s : State) (offset : Nat) : State :=
  s.mapClock (fun c => { c with postdate := offset })

/-- POSTDATE (R148): outside 0..7 refused; during an update taken at its completion (R141). -/
def execPostdate (addressed : Bool) (offset : Nat) (s : State) : Host.Outcome State Fault Refusal :=
  live s (fun s =>
    s.consoleFrame addressed (fun s =>
      if 7 < offset then s.answerIf addressed false
      else if s.clock.updating then
        (s.mapClock (fun c => { c with held := c.held ++ [.postdate offset] })).answerIf addressed true
      else (s.takePostdate offset).answerIf addressed true))

/-! ### The update (R141) -/

/-- A request held back by an update is taken (R141). -/
def State.takeHeld (s : State) : Held → State
  | .dayTurn d => s.takeDayTurn d
  | .postdate offset => s.takePostdate offset

/-- CLOCK_UPDATE_START (R141); the oscillator also runs on the battery (R149). -/
def execClockUpdateStart (s : State) : Host.Outcome State Fault Refusal :=
  .next (s.mapClock (fun c => { c with updating := true }))

/-- The second counted while the core supply is absent: the date and time alone, on the battery (R149). -/
def Clock.batterySecond (c : Clock) : Clock :=
  if c.time.isLast && !c.invalid then
    match c.date.next with
    | some d => { c with date := d, time := .midnight }
    | none => { c with time := .midnight, invalid := true }
  else { c with time := c.time.tick }

/-- An update completes (R141): the second is counted, the sample waiting is answered, and the requests held
back are taken in the order in which they arrived (log 14). -/
def State.completeUpdate (s : State) : State :=
  let held := s.clock.held
  let s := (s.mapClock (fun c => { c with updating := false, held := [] })).countSecond
  (held.foldl State.takeHeld s.answerSample).settle

/-- CLOCK_UPDATE_COMPLETE (R141). -/
def execClockUpdateComplete (s : State) : Host.Outcome State Fault Refusal :=
  .next
    (s.onlyIf s.clock.updating (fun s =>
      if s.powered then s.completeUpdate
      else s.mapClock (fun c => { c with updating := false }.batterySecond)))

/-! ### DATE SET (R147) -/

/-- The eight steps of an accepted DATE SET (R147). A sample held back by the cancelled update is answered
with the new date and time; POSTDATE frames held back are taken, DAY TURN frames held back are dropped
with the heard-turn date (log 14). -/
def State.setDate (s : State) (d : Date) (t : TimeOfDay) : State :=
  let replaced := s.clock.date
  let held := s.clock.held
  let updating := s.clock.updating
  let s := s.mapClock (fun c =>
    { c with date := d, time := t, updating := false, held := [], invalid := false, disagree := false,
             heardTurn := none })
  let s := s.withdraw .dayTurn
  let s := if updating then s.answerSample else s
  let s := held.foldl
    (fun s h =>
      match h with
      | .postdate offset => s.takePostdate offset
      | .dayTurn _ => s) s
  ((s.switchTest).offerDateSet (.dateSet d t replaced)).askHoldings false

/-- DATE_SET (R147): refused unless its date and time are valid. -/
def execDateSet (addressed : Bool) (date : Date) (time : TimeOfDay) (s : State) :
    Host.Outcome State Fault Refusal :=
  live s (fun s =>
    s.consoleFrame addressed (fun s =>
      if date.valid && time.valid then ((s.setDate date time).answerIf addressed true).settle
      else s.answerIf addressed false))

end Sys2Proof.Machine
end

