-- ==== Sys2Proof/Machine/Console.lean ====
section
/-! DEFINITION. The console's other frames (R119, R120): SETTLE, REFILL, REMIT, LINE RUN, LINE STOP, RESUME,
THROTTLE, POLL, CLEAR, JOURNAL READ. -/

namespace Sys2Proof.Machine

/-! ### SETTLE (R151) -/

/-- The settings of an accepted SETTLE taken by every block, the zero history filled (R25, R35, R151). -/
def State.takeSettings (s : State) (g : Settings) : State :=
  (s.mapPacing (fun p => { p with settings := some g })).mapWeigh (fun w =>
    { w with zero := some (List.replicate 16 g.referenceZero), scaleZero := false })

/-- SETTLE (R151): judged whole in OFF-LINE; accepted, or refused with the lowest failing field. -/
def execSettle (r : SettleRecord) (s : State) : Host.Outcome State Fault Refusal :=
  live s (fun s =>
    s.consoleFrame true (fun s =>
      if s.pacing.lane ≠ .offLine then s.answerFrame false
      else
        match settleFailing r with
        | some field => (s.raise (.settleRefused field)).answerFrame false
        | none => (((s.takeSettings (settingsOf r)).answerFrame true).setLane .ready).settle))

/-! ### REFILL and REMIT (R137, R138) -/

/-- The acknowledge field of a frame whose claim is not yet answered (R80). -/
def State.awaitAnswer (s : State) : State := s.mapLink (fun l => { l with ack := .pending })

/-- REFILL (R84, R137): refused with STATE or FIELD, or claimed in the link class. -/
def execRefill (serial amount : Nat) (s : State) : Host.Outcome State Fault Refusal :=
  live s (fun s =>
    s.consoleFrame true (fun s =>
      if s.funds.arbiter.linkBusy then s.answerFrame false
      else if s.pacing.lane = .offLine then s.refuseRefill serial .state
      else if !inRange 1 Config.maxLot amount then s.refuseRefill serial .field
      else ((s.awaitAnswer).claim (.refill serial amount)).settle))

/-- A REMIT passes every test of R138. -/
def State.remitOk (s : State) (dest amount : Nat) : Bool :=
  ((s.pacing.lane == .ready) || (s.pacing.lane == .stopped)) && (s.funds.reserved == 0) &&
    s.funds.store.outbound.isNone && s.credit.remit.isNone && inRange 1 14 dest &&
    (dest != s.link.station) &&
    ((amount == 0) || (inRange 1 999999999 amount && decide (amount ≤ s.funds.store.available))) &&
    !s.funds.storeFault && decide (s.funds.store.nextPassage ≤ Config.lastPassage)

/-- A LOT PASS in the passage slot whose passage has not begun is withdrawn (R138). -/
def State.withdrawUnbegun (s : State) : State :=
  match s.link.slots.passage.req with
  | some (.lotPass _ (.begun ..)) => s
  | some (.lotPass ..) => s.withdraw .passage
  | _ => s

/-- REMIT (R138). -/
def execRemit (dest amount : Nat) (s : State) : Host.Outcome State Fault Refusal :=
  live s (fun s =>
    s.consoleFrame true (fun s =>
      if s.remitOk dest amount then
        let remit : Remit := { dest := dest, remaining := if amount = 0 then none else some amount }
        (((s.withdrawUnbegun).mapCredit (fun c => { c with remit := some remit })).nextRemitStep).answerFrame
          true
      else s.answerFrame false))

/-! ### LINE RUN, LINE STOP, RESUME, THROTTLE (R153, R160) -/

/-- LINE_RUN (R153). -/
def execLineRun (addressed : Bool) (s : State) : Host.Outcome State Fault Refusal :=
  live s (fun s =>
    s.consoleFrame addressed (fun s =>
      match s.pacing.lane with
      | .ready => ((s.answerIf addressed true).setLane .running).settle
      | .quiet => ((s.answerIf addressed true).setLane .running).settle
      | .running => s.answerIf addressed true
      | _ => s.answerIf addressed false))

/-- LINE_STOP (R153). -/
def execLineStop (addressed : Bool) (s : State) : Host.Outcome State Fault Refusal :=
  live s (fun s =>
    s.consoleFrame addressed (fun s =>
      match s.pacing.lane with
      | .offLine => s.answerIf addressed false
      | .running => ((s.answerIf addressed true).drain false false).settle
      | .quiet => ((s.answerIf addressed true).setLane .ready).settle
      | _ => s.answerIf addressed true))

/-- RESUME (R153): taken in STOPPED when neither stop cause holds. -/
def execResume (s : State) : Host.Outcome State Fault Refusal :=
  live s (fun s =>
    s.consoleFrame true (fun s =>
      if (s.pacing.lane == .stopped) && !s.pacing.button && s.print.headReady then
        ((s.answerFrame true).setLane .ready).settle
      else s.answerFrame false))

/-- THROTTLE (R160): a factor outside 1..8 is refused. -/
def execThrottle (addressed : Bool) (factor : Nat) (s : State) : Host.Outcome State Fault Refusal :=
  live s (fun s =>
    s.consoleFrame addressed (fun s =>
      if inRange 1 8 factor then
        (s.mapPacing (fun p => { p with consoleFactor := factor })).answerIf addressed true
      else s.answerIf addressed false))

/-! ### The status block's frames (R164, R167, R168) -/

/-- The station number can be addressed: a strap of 0 or 15 answers no POLL (R122). -/
def Link.addressable (l : Link) : Bool := inRange 1 14 l.station

/-- POLL (R167): taken by a MUTE station too, without an acknowledge; a page above 3 is disregarded
(R175). -/
def execPoll (page : Nat) (s : State) : Host.Outcome State Fault Refusal :=
  live s (fun s =>
    if s.link.dispatchOpen && s.link.addressable && decide (page ≤ 3) && !s.link.full .reply then
      (s.request .reply (.status page)).answerFrame true
    else s.answerFrame false)

/-- The counters that a mask names are set to 0 (R168, R170). -/
def State.clearCounters (s : State) (mask : Nat) : State :=
  let s := if mask.testBit 0 then s.mapLink (fun l => { l with checkErrors := 0 }) else s
  let s := if mask.testBit 1 then s.mapTrack (fun t => { t with feedMisses := 0 }) else s
  let s := if mask.testBit 2 then s.mapWeigh (fun w => { w with unboundBar := 0 }) else s
  let s := if mask.testBit 3 then s.mapTrack (fun t => { t with diverted := 0 }) else s
  if mask.testBit 4 then s.mapPrint (fun p => { p with franked := 0 }) else s

/-- CLEAR (R168). -/
def execClear (faults counters : Nat) (s : State) : Host.Outcome State Fault Refusal :=
  live s (fun s =>
    s.consoleFrame true (fun s =>
      (({ s with status := s.status.clear faults }).clearCounters counters).answerFrame true))

/-- JOURNAL_READ (R164): n of 0 is disregarded (R175). -/
def execJournalRead (n : Nat) (s : State) : Host.Outcome State Fault Refusal :=
  live s (fun s =>
    s.consoleFrame true (fun s =>
      if (n != 0) && !s.link.full .reply && !s.funds.storeFault then
        (s.request .reply (.journal n)).answerFrame true
      else s.answerFrame false))

end Sys2Proof.Machine
end

