-- ==== Sys2Proof/Machine/Pace.lean ====
section
/-! DEFINITION. The pacing unit's own commands (chapter 10): the stop button, the head temperature, the
idle timer and the objection window. -/

namespace Sys2Proof.Machine

/-- The hold timer starts (R156). -/
def State.startHold (s : State) : State :=
  s.mapPacing (fun p => { p with holdTimer := some Config.holdSpan })

/-- STOP_BUTTON_PRESS (R156): in QUIET it wakes the lane first (R159). -/
def execStopButtonPress (s : State) : Host.Outcome State Fault Refusal :=
  live s (fun s =>
    let s := s.mapPacing (fun p => { p with button := true })
    match s.pacing.lane with
    | .running => s.startHold.settle
    | .draining => s.startHold.settle
    | .quiet => (s.wakeOwn.startHold).settle
    | _ => s)

/-- STOP_BUTTON_RELEASE (R156): while the hold timer runs it stops, and a RUNNING lane drains; the release may
make the station idle (R157). -/
def execStopButtonRelease (s : State) : Host.Outcome State Fault Refusal :=
  live s (fun s =>
    let s := s.mapPacing (fun p => { p with button := false })
    if s.pacing.holdTimer.isSome then
      let s := s.mapPacing (fun p => { p with holdTimer := none })
      (if s.pacing.lane = .running then s.drain false false else s).settle
    else s.settle)

/-- HOLD_TIMER_EXPIRY (R156): with the button still pressed the lane stops with abandonment. -/
def execHoldTimerExpiry (s : State) : Host.Outcome State Fault Refusal :=
  live s (fun s =>
    s.onlyIf (s.pacing.holdTimer.isSome && s.pacing.button) (fun s =>
      ((s.mapPacing (fun p => { p with holdTimer := none })).stop).settle))

/-- HEAD_TEMPERATURE_RISE (R160). -/
def execHeadTemperatureRise (s : State) : Host.Outcome State Fault Refusal :=
  live s (fun s =>
    s.mapPacing (fun p =>
      { p with hot := true, heatTimer := if p.lane.moving then some Config.heatSpan else p.heatTimer }))

/-- HEAD_TEMPERATURE_FALL (R160). -/
def execHeadTemperatureFall (s : State) : Host.Outcome State Fault Refusal :=
  live s (fun s =>
    s.mapPacing (fun p => { p with hot := false, heatTimer := none, heatActive := false }))

/-- HEAT_TIMER_EXPIRY (R160). -/
def execHeatTimerExpiry (s : State) : Host.Outcome State Fault Refusal :=
  live s (fun s =>
    s.onlyIf s.pacing.heatTimer.isSome (fun s =>
      s.mapPacing (fun p => { p with heatTimer := none, heatActive := true })))

/-- IDLE_TIMER_EXPIRY (R157): a HUSH is asked for. -/
def execIdleTimerExpiry (s : State) : Host.Outcome State Fault Refusal :=
  live s (fun s =>
    s.onlyIf s.pacing.idleTimer.isSome (fun s =>
      (s.mapPacing (fun p => { p with idleTimer := none })).request .hush .hush))

/-! ### The objection window (R158) -/

/-- Span of an objection window in ms (R158). -/
def windowSpan : Nat := 20

/-- An objection window opens at a station RUNNING or DRAINING in which none runs; the idle timer is held
(R157, R158). -/
def State.openWindow (s : State) : State :=
  if s.pacing.lane.moving && s.pacing.window.isNone then
    s.mapPacing (fun p =>
      { p with window := some { span := windowSpan, holdAsked := false }, idleTimer := none })
  else s

/-- The hush is void: the window ends (R158); the idle timer starts afresh as the step settles. DESIGN CHOICE
(log 58): a HOLD of the station's own that still waits is left in its slot, to be sent with its WAKE after it. -/
def State.voidHush (s : State) : State := s.mapPacing (fun p => { p with window := none })

/-- A HOLD of the station's own is waiting, being sent, or sent and not yet reported (R158). -/
def Link.holdOut (l : Link) : Bool :=
  l.full .hold ||
    match l.report with
    | some a => a.slot == .hold
    | none => false

/-- OBJECTION_WINDOW_END (R158): QUIET, unless the station objects, when it withdraws its HOLD and asks for
a WAKE (log 22). -/
def execObjectionWindowEnd (s : State) : Host.Outcome State Fault Refusal :=
  live s (fun s =>
    match s.pacing.window with
    | none => s
    | some w =>
      let s := s.voidHush
      (if s.link.holdOut || w.holdAsked || !s.isIdle then
        (if s.link.full .hold then s.withdraw .hold else s).request .wake .wake
      else s.setLane .quiet).settle)

end Sys2Proof.Machine
end

