-- ==== Sys2Proof/Machine/Peers.lean ====
section
/-! DEFINITION. The frames heard from other stations (R119): what the credit unit, the date clock and the
pacing unit do with each, and the test of their source (R122). -/

namespace Sys2Proof.Machine

/-- A frame received whole that bears the station's own number raises DUPLICATE STATION (R122, log 16). -/
def State.testSource (s : State) (src : Nat) : State :=
  if s.link.addressable && (src == s.link.station) then (s.raiseDuplicate).settle else s

/-- A station's frame received whole: its source is tested (R122), then it is dispatched (R119). -/
def State.peerFrame (s : State) (src : Nat) (f : State → State) : State :=
  let s := s.testSource src
  s.onlyIf s.link.dispatchOpen f

/-- A frame addressed to this station: a MUTE station disregards it (R122), and a closed dispatch discards
it (R119). -/
def State.ownFrame (s : State) (src : Nat) (f : State → State) : State :=
  let s := s.testSource src
  if s.link.dispatchOpen && !s.link.mute then f s else s.answerFrame false

/-! ### HOLDINGS, CREDIT ASK (R55, R126, R129) -/

/-- The current generation of a peer's HOLDINGS taken into the highest heard (R55). -/
def Rate.hear (r : Rate) (generation : Nat) : Rate :=
  if generation = 0 then r
  else { r with highestHeard := some (max generation (r.highestHeard.getD 0)) }

/-- A mirror entry is dropped, and the lending test made (R126, R129, R130). -/
def State.dropMirror (s : State) (station : Nat) : State :=
  if (lookup s.credit.mirror station).isSome then
    (s.mapCredit (fun c => { c with mirror := dropEntry c.mirror station })).lendingTest
  else s

/-- A HOLDINGS handled by the credit unit and rate memory (R55, R126). -/
def State.takeHoldings (s : State) (src : Nat) (h : HoldingsFrame) : State :=
  let s := s.mapCredit (fun c =>
    { c with roster := if src = s.link.station then c.roster else insertEntry c.roster src h })
  let s := s.mapRate (fun r => (r.hear h.currentGen).evalBehind)
  let s := if h.askRemaining = 0 then s.dropMirror src else s
  if h.fresh then s.askHoldings false else s

/-- HOLDINGS_RECEIVED (R126); one with a value out of range is disregarded (R175). -/
def execHoldingsReceived (src : Nat) (h : HoldingsFrame) (s : State) : Host.Outcome State Fault Refusal :=
  live s (fun s =>
    s.peerFrame src (fun s => s.onlyIf (holdingsOk h) (fun s => (s.takeHoldings src h).settle)))

/-- CREDIT_ASK_RECEIVED (R129): kept in the mirror while the settings are present. -/
def execCreditAskReceived (src amount : Nat) (s : State) : Host.Outcome State Fault Refusal :=
  live s (fun s =>
    s.peerFrame src (fun s =>
      match s.pacing.settings with
      | none => s
      | some g =>
        s.onlyIf (askOk amount && (src != s.link.station)) (fun s =>
          (s.mapCredit (fun c =>
            { c with mirror := insertEntry c.mirror src { remaining := amount, timer := g.askTimeout } }
            )).lendingTest)))

/-! ### Passages (R129, R133, R135, R136) -/

/-- The purpose test of a lot (R133). -/
def State.lotTaken (s : State) (purpose : Purpose) : Bool :=
  (purpose == .remit) || s.credit.ask.isSome

/-- LOT_PASS_RECEIVED (R133): claimed as LOT IN when it passes the purpose test. -/
def execLotPassReceived (src passage amount purpose : Nat) (s : State) :
    Host.Outcome State Fault Refusal :=
  live s (fun s =>
    s.ownFrame src (fun s =>
      match lotOk passage amount purpose with
      | some p =>
        if s.lotTaken p && !s.funds.arbiter.linkBusy then
          ((s.awaitAnswer).claim (.lotIn src passage amount)).settle
        else s.answerFrame false
      | none => s.answerFrame false))

/-- A mirror entry falls by a lot seen acknowledged; at 0 it is dropped (R129). -/
def State.lowerMirror (s : State) (dest amount : Nat) : State :=
  match lookup s.credit.mirror dest with
  | none => s
  | some m =>
    let next : List (Nat × Mirrored) :=
      if m.remaining ≤ amount then dropEntry s.credit.mirror dest
      else insertEntry s.credit.mirror dest { m with remaining := m.remaining - amount }
    (s.mapCredit (fun c => { c with mirror := next })).lendingTest

/-- LOT_PASS_HEARD (R129). -/
def execLotPassHeard (src dest passage amount purpose : Nat) (ackSeen : Bool) (s : State) :
    Host.Outcome State Fault Refusal :=
  live s (fun s =>
    s.peerFrame src (fun s =>
      s.onlyIf (ackSeen && (lotOk passage amount purpose).isSome) (fun s => s.lowerMirror dest amount)))

/-- PASS_QUERY_RECEIVED (R135): taken in hand and judged, or not acknowledged and forgotten. -/
def execPassQueryReceived (src passage : Nat) (s : State) : Host.Outcome State Fault Refusal :=
  live s (fun s =>
    s.ownFrame src (fun s =>
      if (passage != 0) && s.credit.inHand.isNone && !s.link.full .passAnswer then
        ((((s.answerFrame true).mapCredit (fun c =>
          { c with inHand := some { sender := src, passage := passage } })).judgeQuery)).settle
      else s.answerFrame false))

/-- A PASS ANSWER names the outbound passage, and no LOT OUT END for it is claimed (R136). -/
def State.answerFits (s : State) (passage : Nat) : Bool :=
  (s.funds.store.outbound.map Passage.number == some passage) && !s.funds.arbiter.endClaimed passage

/-- PASS_ANSWER_RECEIVED (R136): acknowledged always; an outcome other than 1 or 2 is disregarded
(R175). -/
def execPassAnswerReceived (src passage outcome : Nat) (s : State) : Host.Outcome State Fault Refusal :=
  live s (fun s =>
    s.ownFrame src (fun s =>
      match PassOutcome.ofCode outcome with
      | none => s.answerFrame false
      | some o =>
        let s := s.answerFrame true
        s.onlyIf (s.answerFits passage) (fun s => (s.claim (.lotOutEnd passage o)).settle)))

/-! ### DAY TURN, HUSH, HOLD, WAKE (R144, R158, R159) -/

/-- DAY_TURN_RECEIVED (R144): during an update it is held back until the completion (R141). -/
def execDayTurnReceived (src : Nat) (date : Date) (s : State) : Host.Outcome State Fault Refusal :=
  live s (fun s =>
    s.peerFrame src (fun s =>
      if s.clock.updating then s.mapClock (fun c => { c with held := c.held ++ [.dayTurn date] })
      else (s.takeDayTurn date).settle))

/-- HUSH_RECEIVED (R157, R158): the station's own waiting HUSH is withdrawn and a window opens. -/
def execHushReceived (src : Nat) (s : State) : Host.Outcome State Fault Refusal :=
  live s (fun s =>
    s.peerFrame src (fun s =>
      s.onlyIf (s.pacing.lane.moving && s.pacing.window.isNone) (fun s =>
        ((if s.link.full .hush then s.withdraw .hush else s).openWindow).settle)))

/-- HOLD_RECEIVED (R158): it voids the hush while a window runs. -/
def execHoldReceived (src : Nat) (s : State) : Host.Outcome State Fault Refusal :=
  live s (fun s =>
    s.peerFrame src (fun s => s.onlyIf s.pacing.window.isSome (fun s => (s.voidHush).settle)))

/-- WAKE_RECEIVED (R158, R159): it wakes a QUIET lane, or voids the hush while a window runs. -/
def execWakeReceived (src : Nat) (s : State) : Host.Outcome State Fault Refusal :=
  live s (fun s =>
    s.peerFrame src (fun s =>
      if s.pacing.lane = .quiet then (s.setLane .running).settle
      else s.onlyIf s.pacing.window.isSome (fun s => (s.voidHush).settle)))

/-! ### Frames no block takes (R111, R119) -/

/-- FRAME_DAMAGED (R111). -/
def execFrameDamaged (s : State) : Host.Outcome State Fault Refusal :=
  live s (fun s =>
    (s.mapLink (fun l => { l with checkErrors := min Config.checkErrorTop (l.checkErrors + 1) })).raise
      .linkCheck)

/-- FRAME_DISREGARDED (R119): its source is tested (R122), and one addressed to this station is not
acknowledged (R120). -/
def execFrameDisregarded (frame : Disregarded) (s : State) : Host.Outcome State Fault Refusal :=
  live s (fun s => (s.answerIf frame.addressed false).testSource frame.src)

end Sys2Proof.Machine
end

