-- ==== Sys2Proof/Machine/Replies.lean ====
section
/-! DEFINITION. What the station's own frames say when their content is fixed: HOLDINGS (R125), STATUS
(R167, R170, R174) and JOURNAL (R164, R174). -/

namespace Sys2Proof.Machine

/-! ### HOLDINGS (R125) -/

/-- The content of a HOLDINGS (R125). -/
def State.holdingsContent (s : State) (fresh : Bool) : HoldingsFrame :=
  { fresh := fresh, lane := s.pacing.lane.code, available := s.funds.store.available,
    reserved := s.funds.reserved, outbound := s.funds.store.outboundAmount,
    currentGen := s.rate.currentGen, pendingGen := s.rate.pendingGen,
    askRemaining := (s.credit.ask.map Ask.remaining).getD 0, date := s.clock.date }

/-! ### STATUS (R167, R174) -/

/-- A mask from its bits, bit 0 first (R170). -/
def maskOf : List Bool → Nat
  | [] => 0
  | b :: rest => (if b then 1 else 0) + 2 * maskOf rest

/-- The current condition mask (R166, R170). -/
def State.conditionMask (s : State) : Nat :=
  maskOf
    [s.funds.storeFault, s.link.duplicate, s.link.mute, s.print.headFault, s.clock.invalid,
      s.clock.disagree, s.weigh.scaleZero, s.link.stuck, s.credit.passUnresolved, s.credit.creditShort,
      s.rate.ratesBehind]

/-- The clock flag (R150): the outage latch in the first STATUS after a power-up, validity after that. -/
def Clock.flag (c : Clock) : Nat :=
  if c.latchReported then (if c.invalid then 4 else 3)
  else
    match c.latch with
    | .kept => 1
    | .lost => 2

/-- The 10-byte head of a STATUS (R174). DESIGN CHOICE (log 51): bits 3, 6 and 7 of byte 1, which R174 does not
name, are sent as 0. -/
def State.statusHead (s : State) (page : Nat) : List Byte :=
  let second :=
    s.pacing.lane.code + (if s.print.headReady then 16 else 0) +
      (if s.pacing.settings.isSome then 32 else 0)
  be 1 page ++ be 1 second ++ be 1 s.throttleFactor ++ be 2 s.conditionMask ++ be 3 s.status.mask ++
    be 1 s.status.leading ++ be 1 s.clock.flag

/-- Page 0: the funds store (R174). DESIGN CHOICE (log 50): with no passage the destination and the amount, to which
R174 gives no absent form, are sent as 0. -/
def State.statusFunds (s : State) : List Byte :=
  let st := s.funds.store
  be 4 st.available ++ be 4 s.funds.reserved ++ be 5 st.ascending ++ be 4 st.pieceCount ++
    be 7 st.refillsTotal ++ be 2 st.refillSerial ++
    match st.outbound with
    | some p => be 4 p.number ++ be 1 p.dest ++ be 4 p.amount ++ be 1 p.purpose.code
    | none => be 10 0

/-- Page 1: line id, counters, last commit, date and time (R174). DESIGN CHOICE (log 50): before a SETTLE the line id
is sent as 0. -/
def State.statusCounters (s : State) : List Byte :=
  be 2 ((s.pacing.settings.map Settings.lineId).getD 0) ++ be 1 s.link.checkErrors ++
    be 2 s.track.feedMisses ++ be 2 s.weigh.unboundBar ++ be 2 s.track.diverted ++
    be 4 s.print.franked ++
    (match s.funds.store.lastCommit with
      | some c => be 4 c.piece ++ be 3 c.postage ++ be 4 c.journal
      | none => be 4 0 ++ postageBytes none ++ be 4 0) ++
    dateBytes s.clock.date ++ timeBytes s.clock.time ++ be 1 s.clock.postdate

/-- The state and generation of a bank (R57, R174). -/
def Bank.statusBytes (b : Bank) : List Byte :=
  be 1 b.state.code ++ optBytes 2 (if b.isFree then none else b.generation)

/-- The oldest journal number held (R162). -/
def Store.oldestHeld (st : Store) : Option Nat := st.ring.head?.map Placed.number

/-- The newest journal number held (R162). -/
def Store.newestHeld (st : Store) : Option Nat := st.ring.getLast?.map Placed.number

/-- The detail of a sticky fault, zeros when it is not held (R174). -/
def Status.detail (st : Status) (order zeros : Nat) (f : StickyFault → List Byte) : List Byte :=
  match st.fault? order with
  | some x => f x
  | none => be zeros 0

/-- The detail bytes of the faults that carry one (R166, R174). -/
def StickyFault.detailBytes : StickyFault → List Byte
  | .queryStale sender passage => be 1 sender ++ be 4 passage
  | .jam eye tag => be 1 eye.code ++ be 1 tag
  | .strayPiece eye => be 1 eye.code
  | .headFault piece cause => be 4 piece ++ be 1 cause.code
  | .clockDisagree heard own time => dateBytes heard ++ dateBytes own ++ timeBytes time
  | .journalWrap n => be 4 n
  | .refillRefused serial reason => be 2 serial ++ be 1 reason.code
  | .remitIncomplete dest amount => be 1 dest ++ be 4 amount
  | .loadFailed reason => be 1 reason.code
  | .settleRefused field => be 1 field
  | _ => []

/-- Page 2: banks, journal numbers, fault details (R174). -/
def State.statusBanks (s : State) : List Byte :=
  let st := s.status
  s.rate.bankA.statusBytes ++ s.rate.bankB.statusBytes ++ st.detail 18 1 StickyFault.detailBytes ++
    optBytes 4 s.funds.store.oldestHeld ++ optBytes 4 s.funds.store.newestHeld ++ be 4 st.readMarker ++
    st.detail 7 2 StickyFault.detailBytes ++ st.detail 8 1 StickyFault.detailBytes ++
    st.detail 9 5 StickyFault.detailBytes ++ st.detail 19 1 StickyFault.detailBytes ++
    st.detail 14 4 StickyFault.detailBytes

/-- Page 3: further fault details (R174). -/
def State.statusDetails (s : State) : List Byte :=
  let st := s.status
  st.detail 6 5 StickyFault.detailBytes ++ st.detail 11 9 StickyFault.detailBytes ++
    st.detail 15 3 StickyFault.detailBytes ++ st.detail 16 5 StickyFault.detailBytes

/-- The payload of a STATUS: the head and the page (R174). -/
def State.statusPayload (s : State) (page : Nat) : List Byte :=
  s.statusHead page ++
    match page with
    | 0 => s.statusFunds
    | 1 => s.statusCounters
    | 2 => s.statusBanks
    | _ => s.statusDetails

/-! ### JOURNAL (R164, R174) -/

/-- Entries that fit together in `room` bytes, at most `n` of them (R164, R174). -/
def fitting : Nat → Nat → List Placed → List Placed
  | 0, _, _ => []
  | _ + 1, _, [] => []
  | n + 1, room, e :: rest =>
    let size := e.entry.bytes.length
    if size ≤ room then e :: fitting n (room - size) rest else []

/-- The content of a JOURNAL reply (R164): up to 4 entries from number n on, within 36 bytes. -/
def State.journalContent (s : State) (n : Nat) : Msg :=
  let st := s.funds.store
  .journal n st.oldestHeld st.newestHeld
    (fitting 4 36 (st.ring.filter (fun e => decide (n ≤ e.number))))

/-! ### The content of a frame when it is first begun (R110) -/

/-- Destination and content of a slot's request (R110, R119, R125, R127); none while a LOT PASS has not
begun (R118). -/
def State.content (s : State) : Req → Option (Nat × Msg)
  | .hold => some (0, .hold)
  | .wake => some (0, .wake)
  | .dayTurn d => some (0, .dayTurn d)
  | .passAnswer dest n o => some (dest, .passAnswer n o)
  | .lotPass purpose stage =>
    match stage with
    | .begun dest n amount => some (dest, .lotPass n amount purpose)
    | _ => none
  | .passQuery dest n => some (dest, .passQuery n)
  | .creditAsk => some (0, .creditAsk ((s.credit.ask.map Ask.remaining).getD 0))
  | .status page => some (15, .status page (s.statusPayload page))
  | .journal n => some (15, s.journalContent n)
  | .holdings fresh => some (0, .holdings (s.holdingsContent fresh))
  | .hush => some (0, .hush)

end Sys2Proof.Machine
end

