-- ==== Sys2Proof/Machine/Transmit.lean ====
section
/-! DEFINITION. The commands of transmission (chapter 7): the gap, deferral, the turn of a LOT PASS, frames
sent and their reports, LINK STUCK. -/

namespace Sys2Proof.Machine

/-! ### Which frame is next (R113, R114) -/

/-- The slots in the order in which they are offered (R113). -/
def SlotId.all : List SlotId :=
  [.hold, .wake, .dayTurn, .passAnswer, .passage, .creditAsk, .reply, .holdings, .hush]

/-- A slot is offered: it holds a frame, and a MUTE station offers only a STATUS reply (R114, R122). -/
def Link.offers (l : Link) (i : SlotId) : Bool :=
  match (l.slots.get i).req with
  | none => false
  | some (.status _) => true
  | some _ => !l.mute

/-- The station's first waiting frame in slot order of its most urgent class (R113, R114). -/
def Link.nextSlot (l : Link) : Option SlotId := SlotId.all.find? l.offers

/-- The yield flag of a class (R115). -/
def Link.yields (l : Link) : FrameClass → Bool
  | .urgent => l.yieldUrgent
  | .credit => l.yieldCredit
  | .routine => l.yieldRoutine

/-- The yield flag of a class set or cleared (R115). -/
def Link.setYield (l : Link) (c : FrameClass) (b : Bool) : Link :=
  match c with
  | .urgent => { l with yieldUrgent := b }
  | .credit => { l with yieldCredit := b }
  | .routine => { l with yieldRoutine := b }

/-- The base of a class in gap units (R114). -/
def FrameClass.base : FrameClass → Nat
  | .urgent => 2
  | .credit => 20
  | .routine => 40

/-- The gap of a class in gap units (R114). -/
def Link.gapOf (l : Link) (c : FrameClass) : Nat :=
  c.base + l.station + (if l.yields c then 16 else 0)

/-- The station may count a gap: start-up ended, no LINK STUCK, nothing of its own being sent or awaiting
its report (R114, R117, R121, R123). -/
def Link.mayBegin (l : Link) : Bool :=
  l.dispatchOpen && !l.stuck && l.attempt.isNone && l.report.isNone

/-! ### Begin, defer, cut off (R110, R114 to R116) -/

/-- A slot's frame begun: its content is fixed the first time and is the same at every further attempt
(R110, R114). -/
def State.beginFrame (s : State) (i : SlotId) : State :=
  let slot := s.link.slots.get i
  match slot.req.bind s.content with
  | none => s
  | some (dest, fresh) =>
    let msg := slot.fixed.getD fresh
    let attempt : Attempt := { slot := i, dest := dest, msg := msg, gap := s.link.gapOf i.cls }
    s.mapLink (fun l =>
      { l with slots := l.slots.put i { slot with fixed := some msg }, attempt := some attempt })

/-- GAP_EXPIRY (R114): the first waiting frame begins; a LOT PASS that has not had its turn's answer begins
nothing (R118). -/
def execGapExpiry (s : State) : Host.Outcome State Fault Refusal :=
  live s (fun s =>
    s.onlyIf s.link.mayBegin (fun s =>
      match s.link.nextSlot with
      | some i => s.beginFrame i
      | none => s))

/-- A frame of a class is waiting and offered. -/
def Link.waitsIn (l : Link) (c : FrameClass) : Bool :=
  SlotId.all.any (fun i => (i.cls == c) && l.offers i)

/-- The yield flag of a class cleared if a frame of it waits (R115). -/
def Link.deferClass (l : Link) (c : FrameClass) : Link := if l.waitsIn c then l.setYield c false else l

/-- DEFER (R114, R115). -/
def execDefer (s : State) : Host.Outcome State Fault Refusal :=
  live s (fun s =>
    s.onlyIf s.link.mayBegin (fun s =>
      s.mapLink (fun l => ((l.deferClass .urgent).deferClass .credit).deferClass .routine)))

/-- YIELD_TIMEOUT (R115). -/
def execYieldTimeout (s : State) : Host.Outcome State Fault Refusal :=
  live s (fun s =>
    s.mapLink (fun l => { l with yieldUrgent := false, yieldCredit := false, yieldRoutine := false }))

/-- A slot after a cut-off: the change made during the attempt takes effect (R113, R116). -/
def Slot.cutOff (x : Slot) : Slot :=
  match x.later with
  | none => x
  | some none => .empty
  | some (some r) => .holding r

/-- An attempt is cut off (R116): the frame stays in its slot, as changed during the attempt (R113), the yield
flag as it was; a withdrawal that takes effect in the passage slot empties it (R130). -/
def State.cutOff (s : State) (a : Attempt) : State :=
  let s := s.mapLink (fun l =>
    { l with slots := l.slots.put a.slot (l.slots.get a.slot).cutOff, attempt := none })
  if (a.slot == .passage) && !s.link.full .passage then s.passageEmptied else s

/-- ARBITRATION_LOSS (R116); a HUSH whose withdrawal takes effect lets the idle timer start again (R157). -/
def execArbitrationLoss (s : State) : Host.Outcome State Fault Refusal :=
  live s (fun s =>
    match s.link.attempt with
    | none => s
    | some a => (s.cutOff a).settle)

/-! ### Frames sent (R117) -/

/-- A frame whose sending the table reports to its block by a command of its own (R117, log 17). -/
def Msg.reported : Msg → Bool
  | .lotPass .. => true
  | .passQuery _ => true
  | .hush => true
  | .hold => true
  | .status .. => true
  | .journal .. => true
  | _ => false

/-- An attempt has reached the end of its check: the slot is emptied and the yield flag set; the passage
slot's emptying brings a remit's waiting step and the lending test (R115, R117, R130, R139). -/
def State.sent (s : State) (a : Attempt) : State :=
  let s := s.mapLink (fun l =>
    { l.setYield a.slot.cls true with
      slots := l.slots.put a.slot .empty,
      attempt := none,
      report := if a.msg.reported then some a else none })
  if a.slot = .passage then s.passageEmptied else s

/-- FRAME_SENT (R117). -/
def execFrameSent (s : State) : Host.Outcome State Fault Refusal :=
  live s (fun s =>
    match s.link.attempt with
    | some a => s.sent a
    | none => s)

/-- The report of a frame of a kind sent: FRAME_SENT's part is done first if the attempt is still in
progress (log 17). -/
def State.onReport (s : State) (kind : Msg → Bool) (f : Attempt → State → State) : State :=
  let take (a : Attempt) (s : State) : State :=
    if kind a.msg then f a (s.mapLink (fun l => { l with report := none })) else s
  match s.link.attempt with
  | some a => if kind a.msg then take a (s.sent a) else s
  | none =>
    match s.link.report with
    | some a => take a s
    | none => s

/-- A LOT PASS. -/
def Msg.isLotPass : Msg → Bool
  | .lotPass .. => true
  | _ => false
/-- A PASS QUERY. -/
def Msg.isPassQuery : Msg → Bool
  | .passQuery _ => true
  | _ => false
/-- A STATUS. -/
def Msg.isStatus : Msg → Bool
  | .status .. => true
  | _ => false
/-- A JOURNAL. -/
def Msg.isJournal : Msg → Bool
  | .journal .. => true
  | _ => false

/-- The end of a LOT PASS (R132): LOT OUT END TAKEN on the acknowledge, the query timer without it. -/
def State.lotSent (s : State) (a : Attempt) (ackSeen : Bool) : State :=
  match a.msg with
  | .lotPass n amount _ =>
    if ackSeen then ((s.claim (.lotOutEnd n .taken)).lowerMirror a.dest amount).settle
    else if s.funds.store.outbound.map Passage.number = some n then s.startQuery
    else s
  | _ => s

/-- LOT_PASS_SENT (R132). -/
def execLotPassSent (ackSeen : Bool) (s : State) : Host.Outcome State Fault Refusal :=
  live s (fun s => s.onReport Msg.isLotPass (fun a s => s.lotSent a ackSeen))

/-- PASS_QUERY_SENT (R134). -/
def execPassQuerySent (s : State) : Host.Outcome State Fault Refusal :=
  live s (fun s =>
    s.onReport Msg.isPassQuery (fun _ s =>
      s.mapCredit (fun c =>
        { c with query := c.query.map (fun q => { q with count := q.count + 1 }) })))

/-- HUSH_SENT (R158): the proposer's own objection window opens. -/
def execHushSent (s : State) : Host.Outcome State Fault Refusal :=
  live s (fun s => s.onReport (fun m => m == .hush) (fun _ s => (s.openWindow).settle))

/-- HOLD_SENT (R158): the station's own hush is void, and a WAKE is asked for at once. -/
def execHoldSent (s : State) : Host.Outcome State Fault Refusal :=
  live s (fun s =>
    s.onReport (fun m => m == .hold) (fun _ s => ((s.voidHush).request .wake .wake).settle))

/-- STATUS_SENT (R150, R167). -/
def execStatusSent (s : State) : Host.Outcome State Fault Refusal :=
  live s (fun s =>
    s.onReport Msg.isStatus (fun _ s => s.mapClock (fun c => { c with latchReported := true })))

/-- The read marker that a JOURNAL reply raises (R165). DESIGN CHOICE (log 46): the newest held that bounds n - 1 is
the one the reply carries, not the ring's at the report. -/
def raisedMarker (marker : Nat) : Msg → Nat
  | .journal n _ newest entries =>
    match newest with
    | none => marker
    | some top =>
      max marker (max ((entries.getLast?.map Placed.number).getD 0) (min (n - 1) top))
  | _ => marker

/-- JOURNAL_SENT (R165). -/
def execJournalSent (s : State) : Host.Outcome State Fault Refusal :=
  live s (fun s =>
    s.onReport Msg.isJournal (fun a s =>
      { s with status := { s.status with readMarker := raisedMarker s.status.readMarker a.msg } }))

/-! ### The turn of a LOT PASS (R118, R131, R139) -/

/-- The claimed LOT PASS of a purpose waits in its slot for the answer (R118). -/
def State.claimLot (s : State) (purpose : Purpose) (dest amount : Nat) : State :=
  (s.mapLink (fun l =>
    { l with slots := l.slots.put .passage (.holding (.lotPass purpose .claimed)) })).claim
      (.lotOutStart dest amount purpose)

/-- The turn of a lender's LOT PASS (R131). -/
def State.lendingTurn (s : State) : State :=
  match (if s.lendingHolds then s.chosenBorrower else none) with
  | some (dest, m) =>
    s.claimLot .ask dest (min m.remaining (min s.lendable Config.maxLot))
  | none => (s.withdraw .passage).lendingTest

/-- The amount of a remit's step (R139). -/
def State.remitStep (s : State) (r : Remit) : Nat :=
  min (r.remaining.getD s.funds.spendable) (min s.funds.spendable Config.maxLot)

/-- The turn of a remit's LOT PASS (R139). DESIGN CHOICE (log 52): at an amount of 0 the lending test that the emptied
slot asks for (R130) is made after the remit's end and its asking test. -/
def State.remitTurn (s : State) : State :=
  match s.credit.remit with
  | none => (s.withdraw .passage).lendingTest
  | some r =>
    if s.remitStep r = 0 then
      let s := s.withdraw .passage
      (if r.remaining.isNone then s.endRemit else s.endRemitIncomplete).lendingTest
    else s.claimLot .remit r.dest (s.remitStep r)

/-- LOT_PASS_TURN (R118): at a start of quiet at which the LOT PASS, not yet claimed, is the station's next
frame. -/
def execLotPassTurn (s : State) : Host.Outcome State Fault Refusal :=
  live s (fun s =>
    s.onlyIf (s.link.mayBegin && (s.link.nextSlot == some .passage)) (fun s =>
      match s.link.slots.passage.req with
      | some (.lotPass .ask .waiting) => (s.lendingTurn).settle
      | some (.lotPass .remit .waiting) => (s.remitTurn).settle
      | _ => s))

/-! ### LINK STUCK (R121) -/

/-- LINK_STUCK (R121). -/
def execLinkStuck (s : State) : Host.Outcome State Fault Refusal :=
  live s (fun s => (s.mapLink (fun l => { l with stuck := true })).raise .linkStuck)

/-- LINK_STUCK_END (R121). -/
def execLinkStuckEnd (s : State) : Host.Outcome State Fault Refusal :=
  live s (fun s => s.mapLink (fun l => { l with stuck := false }))

/-! ### The credit unit's timers (R128, R129, R134) -/

/-- ASK_DEADLINE (R128): the ask closes; if the asking test still holds, CREDIT SHORT and a back-off of four
times the timeout. -/
def execAskDeadline (s : State) : Host.Outcome State Fault Refusal :=
  live s (fun s =>
    match s.credit.ask with
    | none => s
    | some a =>
      let s := s.closeAsk
      if s.askingHolds then
        (s.mapCredit (fun c =>
          { c with creditShort := true, backOff := some (4 * a.deadline) })).raise .creditShort
      else s.askingTest)

/-- BACK_OFF_END (R128). -/
def execBackOffEnd (s : State) : Host.Outcome State Fault Refusal :=
  live s (fun s =>
    s.onlyIf s.credit.backOff.isSome (fun s =>
      (s.mapCredit (fun c => { c with backOff := none })).askingTest))

/-- MIRROR_TIMER_EXPIRY (R129). -/
def execMirrorTimerExpiry (station : Nat) (s : State) : Host.Outcome State Fault Refusal :=
  live s (fun s => s.dropMirror station)

/-- A PASS QUERY for the outbound passage is placed, replacing one that waits, and the timer restarted
(R134). DESIGN CHOICE (log 62): R113 does not say what becomes of a PASS QUERY that finds a begun LOT PASS waiting in the
passage slot; none is placed then, and only the timer is restarted. -/
def State.placeQuery (s : State) (p : Passage) : State :=
  let s := s.mapCredit (fun c =>
    { c with query := c.query.map (fun q => { q with timer := some Config.querySpan }) })
  match s.link.slots.passage.req with
  | some (.lotPass ..) => s
  | _ => s.request .passage (.passQuery p.dest p.number)

/-- QUERY_TIMER_EXPIRY (R134): an answer has been received while its LOT OUT END is claimed and not yet answered
(R136). -/
def execQueryTimerExpiry (s : State) : Host.Outcome State Fault Refusal :=
  live s (fun s =>
    match s.credit.query, s.funds.store.outbound with
    | some q, some p =>
      s.onlyIf (q.timer.isSome && !s.link.mute && !s.funds.storeFault) (fun s =>
        let s :=
          if decide (Config.queryLimit ≤ q.count) && !s.funds.arbiter.endClaimed p.number then
            (s.mapCredit (fun c => { c with passUnresolved := true })).raise .passUnresolved
          else s
        s.placeQuery p)
    | _, _ => s)

end Sys2Proof.Machine
end

