-- ==== Sys2Proof/Machine/Resets.lean ====
section
/-! DEFINITION. Power-up, warm reset and the loss of power: what each keeps, and the start-up processing
(R24, R39, R56, R73, R77, R92, R93, R123, R140, R149, R150, R161, R166). -/

namespace Sys2Proof.Machine

/-- Every volatile structure as a reset leaves it, beside what the store, rate memory and the date clock
keep. -/
def State.cleared (s : State) (powered : Bool) (store : Store) (draws : Nat) (clock : Clock) (strap : Nat)
    (button hot : Bool) : State :=
  { pending := s.pending, powered := powered, io := .afterReset, track := .afterReset,
    weigh := .afterReset, rate := .afterReset s.rate.bankA s.rate.bankB, engine := .afterReset,
    funds := .afterReset store draws, print := .afterReset, link := .afterReset strap,
    credit := .afterReset, clock := .afterReset clock, pacing := .afterReset button hot,
    status := .afterReset }

/-- A bank's directory entry put in order at start-up (R56). -/
def Bank.atStartUp (b : Bank) : Bank :=
  if b.isLoading || b.isRetiring then b.freed else { b with named := false }

/-- The UNCONFIRMED entry of an interrupted run (R92). -/
def Store.unconfirmed (st : Store) (mark : Nat) : Entry :=
  .unconfirmed (st.lastCommit.map LastCommit.piece) (st.lastCommit.map LastCommit.postage)
    (st.lastCommit.map LastCommit.journal) (st.pieceCount - mark)

/-- The start-up write that clears a run mark, with its UNCONFIRMED entry unless the journal is closed
(R92, R162). -/
def Store.clearMark (st : Store) (mark : Nat) : Store :=
  let cleared := { st with runMark := none }
  if st.closed then cleared else cleared.place (st.unconfirmed mark)

/-- Step 2 of start-up (R92): a failing write leaves the mark and raises STORE FAULT as well (log 30). DESIGN CHOICE
(log 63): the UNCONFIRMED entry placed in a full ring raises JOURNAL WRAP, by the words of R165, where the worked sequence
of section 11.7 shows POWER LOSS IN RUN alone. -/
def State.startMark (s : State) (mark : Nat) (writeGood : Bool) : State :=
  (if writeGood then
    let s := if s.funds.store.closed then s else s.wrapFault .journalAppend
    s.mapFunds (fun f => { f with store := f.store.clearMark mark })
  else s.raiseStoreFault).raise .powerLossInRun

/-- Step 3 of start-up (R92): the unresolved passage begins the query state, with its first query at once
where queries may be placed (R134). -/
def State.startQueries (s : State) : State :=
  match s.funds.store.outbound with
  | none => s
  | some p =>
    let s := s.startQuery
    if s.link.mute || s.funds.storeFault then s else s.placeQuery p

/-- Steps 1 to 3 of the funds store's start-up (R92). -/
def State.startStore (s : State) (x : StartInputs) : State :=
  if !x.checksPass then s.raiseStoreFault
  else
    (match s.funds.store.runMark with
      | some mark => s.startMark mark x.writeGood
      | none => s).startQueries

/-- The start of the part from its cleared state: rate memory's directory, the store's start-up, the
dispatch opened, ABORT 0 to the head, the switch test (R56, R92, R93). -/
def State.startUp (s : State) (x : StartInputs) : State :=
  let s := s.mapRate (fun r => { r with bankA := r.bankA.atStartUp, bankB := r.bankB.atStartUp })
  let s := (s.startStore x).mapLink (fun l => { l with dispatchOpen := true })
  ((s.sendHead (.abort 0)).switchTest).settle

/-- The date clock at power-up (R149): LOST resets the date, and KEPT leaves it as the oscillator carried
it. The latch-reported mark is cleared (R150). DESIGN CHOICE (log 54): LOST cancels an update in progress, of which R149
says nothing. -/
def Clock.atPowerUp (c : Clock) (kept : Bool) : Clock :=
  if kept then { c with latch := .kept, latchReported := false }
  else
    { c with latch := .lost, latchReported := false, date := ⟨2000, 1, 1⟩, time := .midnight,
             invalid := true, updating := false }

/-- POWER_UP (R92, R149): a write in progress at the loss is undone (R77); `kept` says whether the
oscillator ran without a stop. -/
def execPowerUp (kept : Bool) (inputs : StartInputs) (s : State) : Host.Outcome State Fault Refusal :=
  .next
    (let t := s.cleared true s.funds.store s.funds.freeDraws (s.clock.atPowerUp kept) inputs.strap
      inputs.button inputs.hot
    (if kept then t else t.raise .clockInvalid).startUp inputs)

/-- The store after a write in progress at a warm reset has completed, or been undone (R77). -/
def Funds.completed (f : Funds) (readBack : Bool) : Store :=
  match f.arbiter.writing with
  | some c => if readBack then f.store.write f.freeDraws f.queue.head? c else f.store
  | none => f.store

/-- Free values drawn by a write that completes at a warm reset (log 10). -/
def Funds.drawn (f : Funds) (readBack : Bool) : Nat :=
  match f.arbiter.writing with
  | some c => if readBack then f.freeDraws + c.draws f.store.available else f.freeDraws
  | none => f.freeDraws

/-- WARM_RESET (R77, R150): a write in progress completes, then the volatile state is reset; the clock, its
latch and its validity are not touched. -/
def execWarmReset (readBack : Bool) (inputs : StartInputs) (s : State) :
    Host.Outcome State Fault Refusal :=
  live s (fun s =>
    (s.cleared true (s.funds.completed readBack) (s.funds.drawn readBack) s.clock inputs.strap
      inputs.button inputs.hot).startUp inputs)

/-- POWER_LOSS (R77): a write in progress is undone and all volatile state is lost; the funds store, the
banks and the battery's clock are kept. -/
def execPowerLoss (s : State) : Host.Outcome State Fault Refusal :=
  live s (fun s =>
    s.cleared false s.funds.store s.funds.freeDraws s.clock s.link.station s.pacing.button s.pacing.hot)

end Sys2Proof.Machine
end

