-- ==== Sys2Proof/Machine/Dispatch.lean ====
section
/-! DEFINITION. The dispatch: one arm per command, each a direct call of its meaning. -/

namespace Sys2Proof.Machine

/-- The effect of a command on everything but the queue. -/
def exec (i : Instr) (s : State) : Host.Outcome State Fault Refusal :=
  match i with
  | .powerUp kept inputs => Sys2Proof.Machine.execPowerUp kept inputs s
  | .warmReset readBack inputs => Sys2Proof.Machine.execWarmReset readBack inputs s
  | .encoderStep dir => Sys2Proof.Machine.execEncoderStep dir s
  | .infeedLeadEdge => Sys2Proof.Machine.execInfeedLeadEdge s
  | .infeedTrailEdge => Sys2Proof.Machine.execInfeedTrailEdge s
  | .downstreamLeadEdge eye => Sys2Proof.Machine.execDownstreamLeadEdge eye s
  | .downstreamTrailEdge eye => Sys2Proof.Machine.execDownstreamTrailEdge eye s
  | .feedGateOpen => Sys2Proof.Machine.execFeedGateOpen s
  | .feedMiss => Sys2Proof.Machine.execFeedMiss s
  | .graceEnd => Sys2Proof.Machine.execGraceEnd s
  | .platformStartEvent tag => Sys2Proof.Machine.execPlatformStartEvent tag s
  | .windowOpening tag => Sys2Proof.Machine.execWindowOpening tag s
  | .platformEndEvent tag => Sys2Proof.Machine.execPlatformEndEvent tag s
  | .platformLeaving tag => Sys2Proof.Machine.execPlatformLeaving tag s
  | .scaleSample value => Sys2Proof.Machine.execScaleSample value s
  | .barEvent tag => Sys2Proof.Machine.execBarEvent tag s
  | .barReading width thickness => Sys2Proof.Machine.execBarReading width thickness s
  | .barNoRead => Sys2Proof.Machine.execBarNoRead s
  | .dateSampleAnswer tag => Sys2Proof.Machine.execDateSampleAnswer tag s
  | .bankChoice => Sys2Proof.Machine.execBankChoice s
  | .reservationRequest => Sys2Proof.Machine.execReservationRequest s
  | .decisionEvent tag => Sys2Proof.Machine.execDecisionEvent tag s
  | .divertHoldEnd => Sys2Proof.Machine.execDivertHoldEnd s
  | .armEvent tag => Sys2Proof.Machine.execArmEvent tag s
  | .endOfPrintWindow tag => Sys2Proof.Machine.execEndOfPrintWindow tag s
  | .jam eye => Sys2Proof.Machine.execJam eye s
  | .noteArrival classCode zone services => Sys2Proof.Machine.execNoteArrival classCode zone services s
  | .headReady => Sys2Proof.Machine.execHeadReady s
  | .headNotReady => Sys2Proof.Machine.execHeadNotReady s
  | .printDone piece => Sys2Proof.Machine.execPrintDone piece s
  | .printFault piece cause => Sys2Proof.Machine.execPrintFault piece cause s
  | .stopButtonPress => Sys2Proof.Machine.execStopButtonPress s
  | .stopButtonRelease => Sys2Proof.Machine.execStopButtonRelease s
  | .holdTimerExpiry => Sys2Proof.Machine.execHoldTimerExpiry s
  | .headTemperatureRise => Sys2Proof.Machine.execHeadTemperatureRise s
  | .headTemperatureFall => Sys2Proof.Machine.execHeadTemperatureFall s
  | .heatTimerExpiry => Sys2Proof.Machine.execHeatTimerExpiry s
  | .debitComplete readBack => Sys2Proof.Machine.execDebitComplete readBack s
  | .lotInComplete readBack => Sys2Proof.Machine.execLotInComplete readBack s
  | .refillComplete readBack => Sys2Proof.Machine.execRefillComplete readBack s
  | .lotOutStartComplete readBack => Sys2Proof.Machine.execLotOutStartComplete readBack s
  | .lotOutEndComplete readBack => Sys2Proof.Machine.execLotOutEndComplete readBack s
  | .settleNotTakenComplete readBack => Sys2Proof.Machine.execSettleNotTakenComplete readBack s
  | .runMarkComplete readBack => Sys2Proof.Machine.execRunMarkComplete readBack s
  | .journalAppendComplete readBack => Sys2Proof.Machine.execJournalAppendComplete readBack s
  | .rateBegin addressed generation effective rounding zones => Sys2Proof.Machine.execRateBegin addressed generation effective rounding zones s
  | .rateLoad addressed generation index segment => Sys2Proof.Machine.execRateLoad addressed generation index segment s
  | .rateFinish addressed generation count check => Sys2Proof.Machine.execRateFinish addressed generation count check s
  | .rateDrop addressed generation => Sys2Proof.Machine.execRateDrop addressed generation s
  | .bankSwitchEntryJoin => Sys2Proof.Machine.execBankSwitchEntryJoin s
  | .settle r => Sys2Proof.Machine.execSettle r s
  | .refill serial amount => Sys2Proof.Machine.execRefill serial amount s
  | .dateSet addressed date time => Sys2Proof.Machine.execDateSet addressed date time s
  | .dateSetEntryJoin => Sys2Proof.Machine.execDateSetEntryJoin s
  | .postdate addressed offset => Sys2Proof.Machine.execPostdate addressed offset s
  | .lineRun addressed => Sys2Proof.Machine.execLineRun addressed s
  | .lineStop addressed => Sys2Proof.Machine.execLineStop addressed s
  | .resume => Sys2Proof.Machine.execResume s
  | .throttle addressed factor => Sys2Proof.Machine.execThrottle addressed factor s
  | .poll page => Sys2Proof.Machine.execPoll page s
  | .clear faults counters => Sys2Proof.Machine.execClear faults counters s
  | .journalRead n => Sys2Proof.Machine.execJournalRead n s
  | .remit dest amount => Sys2Proof.Machine.execRemit dest amount s
  | .holdingsReceived src h => Sys2Proof.Machine.execHoldingsReceived src h s
  | .creditAskReceived src amount => Sys2Proof.Machine.execCreditAskReceived src amount s
  | .lotPassReceived src passage amount purpose => Sys2Proof.Machine.execLotPassReceived src passage amount purpose s
  | .lotPassHeard src dest passage amount purpose ackSeen => Sys2Proof.Machine.execLotPassHeard src dest passage amount purpose ackSeen s
  | .passQueryReceived src passage => Sys2Proof.Machine.execPassQueryReceived src passage s
  | .passAnswerReceived src passage outcome => Sys2Proof.Machine.execPassAnswerReceived src passage outcome s
  | .dayTurnReceived src date => Sys2Proof.Machine.execDayTurnReceived src date s
  | .hushReceived src => Sys2Proof.Machine.execHushReceived src s
  | .holdReceived src => Sys2Proof.Machine.execHoldReceived src s
  | .wakeReceived src => Sys2Proof.Machine.execWakeReceived src s
  | .frameDamaged => Sys2Proof.Machine.execFrameDamaged s
  | .gapExpiry => Sys2Proof.Machine.execGapExpiry s
  | .arbitrationLoss => Sys2Proof.Machine.execArbitrationLoss s
  | .lotPassTurn => Sys2Proof.Machine.execLotPassTurn s
  | .frameSent => Sys2Proof.Machine.execFrameSent s
  | .lotPassSent ackSeen => Sys2Proof.Machine.execLotPassSent ackSeen s
  | .passQuerySent => Sys2Proof.Machine.execPassQuerySent s
  | .hushSent => Sys2Proof.Machine.execHushSent s
  | .holdSent => Sys2Proof.Machine.execHoldSent s
  | .statusSent => Sys2Proof.Machine.execStatusSent s
  | .journalSent => Sys2Proof.Machine.execJournalSent s
  | .yieldTimeout => Sys2Proof.Machine.execYieldTimeout s
  | .linkStuck => Sys2Proof.Machine.execLinkStuck s
  | .linkStuckEnd => Sys2Proof.Machine.execLinkStuckEnd s
  | .askDeadline => Sys2Proof.Machine.execAskDeadline s
  | .backOffEnd => Sys2Proof.Machine.execBackOffEnd s
  | .mirrorTimerExpiry station => Sys2Proof.Machine.execMirrorTimerExpiry station s
  | .queryTimerExpiry => Sys2Proof.Machine.execQueryTimerExpiry s
  | .clockUpdateStart => Sys2Proof.Machine.execClockUpdateStart s
  | .clockUpdateComplete => Sys2Proof.Machine.execClockUpdateComplete s
  | .idleTimerExpiry => Sys2Proof.Machine.execIdleTimerExpiry s
  | .objectionWindowEnd => Sys2Proof.Machine.execObjectionWindowEnd s
  | .powerLoss => Sys2Proof.Machine.execPowerLoss s
  | .defer => Sys2Proof.Machine.execDefer s
  | .frameDisregarded frame => Sys2Proof.Machine.execFrameDisregarded frame s

end Sys2Proof.Machine
end

