-- ==== Sys2Proof/WellFormed.lean ====
section
/-! DEFINITION. Well-formed commands: those whose operands the bytes of the frame, the message of the lane
port or the pins can spell (R110, R169, R171 to R173). A value the manual calls out of its range is still
well formed where its bytes can carry it: what is done with it belongs to the command's meaning (R175). -/

namespace Sys2Proof

/-- A number of `n` bytes. -/
def fits (n v : Nat) : Bool := decide (v < 256 ^ n)

/-- A date of 3 bytes: year less 2000, month, day (R169). -/
def Date.spelled (d : Date) : Bool :=
  decide (2000 ≤ d.year) && fits 1 (d.year - 2000) && fits 1 d.month && fits 1 d.day

/-- A time of day of 3 bytes (R169). -/
def TimeOfDay.spelled (t : TimeOfDay) : Bool := fits 1 t.hour && fits 1 t.minute && fits 1 t.second

/-- A station's number as the source of a frame (R110). -/
def isStation (n : Nat) : Bool := decide (1 ≤ n) && decide (n ≤ 14)

/-- What the four strap pins can give (R123). -/
def StartInputs.spelled (x : StartInputs) : Bool := decide (x.strap ≤ 15)

/-- The fields of a segment fit their bytes; a surcharge carries eight class code bytes (R171). -/
def Segment.spelled : Segment → Bool
  | .classHeader code w l wd t => fits 1 code && fits 2 w && fits 2 l && fits 2 wd && fits 2 t
  | .breakRow limit prices => fits 2 limit && decide (prices.length ≤ 14) && prices.all (fits 3)
  | .surcharge n codes kind threshold fixed perStep step =>
    fits 1 n && (codes.length == 8) && codes.all (fits 1) && fits 1 kind && fits 2 threshold &&
      fits 3 fixed && fits 3 perStep && fits 2 step

/-- The fields of a SETTLE record fit their bits (R172). -/
def SettleRecord.spelled (r : SettleRecord) : Bool :=
  [r.p0, r.p1, r.bar, r.decision, r.arm, r.print, r.exit].all (fun v => decide (v < 2 ^ 14)) &&
    decide (r.window < 2 ^ 11) && decide (r.tolerance < 2 ^ 9) && decide (r.settleDistance < 2 ^ 11) &&
    decide (r.gap < 2 ^ 12) && decide (r.noteCount < 2 ^ 3) && fits 1 r.noteClass && fits 1 r.noteZone &&
    (r.noteServices.length == 4) && r.noteServices.all (fits 1) && decide (r.feedFloor < 2 ^ 27) &&
    fits 2 r.referenceZero && decide (r.minSamples < 2 ^ 6) && decide (r.steadiness < 2 ^ 9) &&
    decide (r.lowMark < 2 ^ 27) && decide (r.keepAmount < 2 ^ 30) && decide (r.askAmount < 2 ^ 27) &&
    decide (r.askTimeout < 2 ^ 14) && fits 2 r.lineId && decide (r.idleSpan < 2 ^ 10) &&
    decide (r.heatFactor < 2 ^ 4) && decide (r.creditFactor < 2 ^ 4)

/-- The fields of a HOLDINGS fit their bytes; the lane state has 3 bits (R171). -/
def HoldingsFrame.spelled (h : HoldingsFrame) : Bool :=
  decide (h.lane < 8) && fits 4 h.available && fits 4 h.reserved && fits 4 h.outbound &&
    fits 2 h.currentGen && fits 2 h.pendingGen && fits 4 h.askRemaining && h.date.spelled

/-- The source of a command that is a frame heard from a station (R110, R119). -/
def Instr.peerSource : Instr → Option Nat
  | .holdingsReceived src _ => some src
  | .creditAskReceived src _ => some src
  | .lotPassReceived src _ _ _ => some src
  | .lotPassHeard src _ _ _ _ _ => some src
  | .passQueryReceived src _ => some src
  | .passAnswerReceived src _ _ => some src
  | .dayTurnReceived src _ => some src
  | .hushReceived src => some src
  | .holdReceived src => some src
  | .wakeReceived src => some src
  | _ => none

/-- A command whose operands can be spelled. -/
def Instr.wellFormed : Instr → Bool
  | .powerUp _ x => x.spelled
  | .warmReset _ x => x.spelled
  | .platformStartEvent tag => fits 1 tag
  | .windowOpening tag => fits 1 tag
  | .platformEndEvent tag => fits 1 tag
  | .platformLeaving tag => fits 1 tag
  | .scaleSample v => decide (v ≤ 300000)
  | .barEvent tag => fits 1 tag
  | .barReading w t => fits 2 w && fits 2 t
  | .dateSampleAnswer tag => fits 1 tag
  | .decisionEvent tag => fits 1 tag
  | .armEvent tag => fits 1 tag
  | .endOfPrintWindow tag => fits 1 tag
  | .noteArrival c z services =>
    fits 1 c && fits 1 z && decide (services.length ≤ 255) && services.all (fits 1)
  | .printDone piece => fits 4 piece
  | .printFault piece cause => fits 4 piece && fits 1 cause
  | .rateBegin _ g d rounding zones => fits 2 g && d.spelled && fits 2 rounding && fits 1 zones
  | .rateLoad _ g index seg => fits 2 g && fits 1 index && seg.spelled
  | .rateFinish _ g count check => fits 2 g && fits 1 count && fits 2 check
  | .rateDrop _ g => fits 2 g
  | .settle r => r.spelled
  | .refill serial amount => fits 2 serial && fits 4 amount
  | .dateSet _ d t => d.spelled && t.spelled
  | .postdate _ offset => fits 1 offset
  | .throttle _ factor => fits 1 factor
  | .poll page => fits 1 page
  | .clear faults counters => fits 4 faults && fits 1 counters
  | .journalRead n => fits 4 n
  | .remit dest amount => fits 1 dest && fits 4 amount
  | .holdingsReceived src h => isStation src && h.spelled
  | .creditAskReceived src amount => isStation src && fits 4 amount
  | .lotPassReceived src passage amount purpose =>
    isStation src && fits 4 passage && fits 4 amount && fits 1 purpose
  | .lotPassHeard src dest passage amount purpose _ =>
    isStation src && isStation dest && fits 4 passage && fits 4 amount && fits 1 purpose
  | .passQueryReceived src passage => isStation src && fits 4 passage
  | .passAnswerReceived src passage outcome => isStation src && fits 4 passage && fits 1 outcome
  | .dayTurnReceived src d => isStation src && d.spelled
  | .hushReceived src => isStation src
  | .holdReceived src => isStation src
  | .wakeReceived src => isStation src
  | .mirrorTimerExpiry station => isStation station
  | .frameDisregarded frame => fits 1 frame.src
  | _ => true

end Sys2Proof
end

