-- ==== Sys2Proof/Machine/Receive.lean ====
section
/-! DEFINITION. Which command a byte string spells: the frame heard on the pair (R110, R111, R119, R169 to
R172) and the messages of the lane port (R173, R175). -/

namespace Sys2Proof.Machine

/-! ### Fields -/

/-- The number in `n` bytes from byte `i` on (R169). -/
def num (bs : List Byte) (i n : Nat) : Nat := ofBytes ((bs.drop i).take n)

/-- The date in 3 bytes from byte `i` on (R169). -/
def dateAt (bs : List Byte) (i : Nat) : Date := ⟨2000 + num bs i 1, num bs (i + 1) 1, num bs (i + 2) 1⟩

/-- The time of day in 3 bytes from byte `i` on (R169). -/
def timeAt (bs : List Byte) (i : Nat) : TimeOfDay := ⟨num bs i 1, num bs (i + 1) 1, num bs (i + 2) 1⟩

/-- The values of single bytes. -/
def byteValues (bs : List Byte) : List Nat := bs.map BitVec.toNat

/-! ### The frame (R110, R111) -/

/-- A frame's fields before its check. -/
structure Frame where
  kind : Nat
  src : Nat
  dest : Nat
  payload : List Byte
deriving DecidableEq, Repr

/-- A frame from its bytes, start delimiter to check; none when it is damaged (R111). -/
def parseFrame (bs : List Byte) : Option Frame :=
  let length := num bs 4 1
  let covered := (bs.drop 1).take (4 + length)
  if bs.head? = some startDelimiter ∧ length ≤ 48 ∧ bs.length = 7 + length ∧
      num bs (5 + length) 2 = (checkBytes 0xFFFF#16 covered).toNat then
    some { kind := num bs 1 1, src := num bs 2 1, dest := num bs 3 1, payload := covered.drop 4 }
  else none

/-! ### SETTLE and RATE LOAD (R171, R172) -/

/-- A field of the packed SETTLE record: `width` bits, `offset` bits after the first (R172). -/
def settleField (record offset width : Nat) : Nat := record / 2 ^ (384 - offset - width) % 2 ^ width

/-- The SETTLE record (R172). DESIGN CHOICE (log 48): the one bit after the fields is not looked at. -/
def settleOf (bs : List Byte) : SettleRecord :=
  let f := settleField (ofBytes bs)
  { p0 := f 0 14, p1 := f 14 14, bar := f 28 14, decision := f 42 14, arm := f 56 14, print := f 70 14,
    exit := f 84 14, window := f 98 11, tolerance := f 109 9, settleDistance := f 118 11,
    gap := f 129 12, notePresent := f 141 1 == 1, noteCount := f 142 3, noteClass := f 145 8,
    noteZone := f 153 8, noteServices := [f 161 8, f 169 8, f 177 8, f 185 8], feedFloor := f 193 27,
    referenceZero := f 220 16, minSamples := f 236 6, steadiness := f 242 9, lowMark := f 251 27,
    keepAmount := f 278 30, askAmount := f 308 27, askTimeout := f 335 14, lineId := f 349 16,
    idleSpan := f 365 10, heatFactor := f 375 4, creditFactor := f 379 4 }

/-- Prices of 3 bytes each. -/
def pricesOf (bs : List Byte) : Nat → List Nat
  | 0 => []
  | n + 1 => num bs 0 3 :: pricesOf (bs.drop 3) n

/-- The segment of a RATE LOAD, by its kind byte; none when its length is not the one of its kind
(R171). DESIGN CHOICE (log 53): R171 gives a kind byte other than 1, 2 and 3 no length and R47 no outcome; the frame is
disregarded. -/
def segmentOf (bs : List Byte) : Option Segment :=
  match num bs 0 1 with
  | 1 =>
    if bs.length = 10 then
      some (.classHeader (num bs 1 1) (num bs 2 2) (num bs 4 2) (num bs 6 2) (num bs 8 2))
    else none
  | 2 =>
    if 3 ≤ bs.length ∧ bs.length % 3 = 0 then
      some (.breakRow (num bs 1 2) (pricesOf (bs.drop 3) (bs.length / 3 - 1)))
    else none
  | 3 =>
    if bs.length = 21 then
      some (.surcharge (num bs 1 1) (byteValues ((bs.drop 2).take 8)) (num bs 10 1) (num bs 11 2)
        (num bs 13 3) (num bs 16 3) (num bs 19 2))
    else none
  | _ => none

/-! ### The dispatch (R119) -/

/-- A payload of the length its kind calls for. -/
def ofLength (p : List Byte) (n : Nat) (c : Instr) : Option Instr := if p.length = n then some c else none

/-- The command of a console frame that may be broadcast or addressed (R119, R171). -/
def consoleShared (addressed : Bool) (kind : Nat) (p : List Byte) : Option Instr :=
  match kind with
  | 0x32 => ofLength p 8 (.rateBegin addressed (num p 0 2) (dateAt p 2) (num p 5 2) (num p 7 1))
  | 0x33 => (segmentOf (p.drop 3)).map (.rateLoad addressed (num p 0 2) (num p 2 1))
  | 0x34 => ofLength p 5 (.rateFinish addressed (num p 0 2) (num p 2 1) (num p 3 2))
  | 0x35 => ofLength p 2 (.rateDrop addressed (num p 0 2))
  | 0x36 => ofLength p 6 (.dateSet addressed (dateAt p 0) (timeAt p 3))
  | 0x37 => ofLength p 1 (.postdate addressed (num p 0 1))
  | 0x38 => ofLength p 0 (.lineRun addressed)
  | 0x39 => ofLength p 0 (.lineStop addressed)
  | 0x3B => ofLength p 1 (.throttle addressed (num p 0 1))
  | _ => none

/-- The command of a console frame sent to the station's own number alone (R119, R171). -/
def consoleOwn (kind : Nat) (p : List Byte) : Option Instr :=
  match kind with
  | 0x30 => ofLength p 48 (.settle (settleOf p))
  | 0x31 => ofLength p 6 (.refill (num p 0 2) (num p 2 4))
  | 0x3A => ofLength p 0 .resume
  | 0x3C => ofLength p 1 (.poll (num p 0 1))
  | 0x3D => ofLength p 5 (.clear (num p 0 4) (num p 4 1))
  | 0x3E => ofLength p 4 (.journalRead (num p 0 4))
  | 0x3F => ofLength p 5 (.remit (num p 0 1) (num p 1 4))
  | _ => none

/-- The HOLDINGS payload (R171). DESIGN CHOICE (log 51): bits 6..3 of the state byte are not looked at. -/
def holdingsOf (p : List Byte) : HoldingsFrame :=
  { fresh := decide (128 ≤ num p 0 1), lane := num p 0 1 % 8, available := num p 1 4,
    reserved := num p 5 4, outbound := num p 9 4, currentGen := num p 13 2, pendingGen := num p 15 2,
    askRemaining := num p 17 4, date := dateAt p 21 }

/-- The command of a station's broadcast (R119, R171). -/
def peerBroadcast (kind src : Nat) (p : List Byte) : Option Instr :=
  match kind with
  | 0x02 => ofLength p 3 (.dayTurnReceived src (dateAt p 0))
  | 0x03 => ofLength p 0 (.holdReceived src)
  | 0x04 => ofLength p 0 (.wakeReceived src)
  | 0x10 => ofLength p 4 (.creditAskReceived src (num p 0 4))
  | 0x20 => ofLength p 24 (.holdingsReceived src (holdingsOf p))
  | 0x21 => ofLength p 0 (.hushReceived src)
  | _ => none

/-- The command of a station's frame addressed to a station (R119, R171). -/
def peerAddressed (own ackSeen : Bool) (kind src dest : Nat) (p : List Byte) : Option Instr :=
  match kind with
  | 0x01 => if own then ofLength p 5 (.passAnswerReceived src (num p 0 4) (num p 4 1)) else none
  | 0x11 =>
    ofLength p 9
      (if own then .lotPassReceived src (num p 0 4) (num p 4 4) (num p 8 1)
      else .lotPassHeard src dest (num p 0 4) (num p 4 4) (num p 8 1) ackSeen)
  | 0x12 => if own then ofLength p 4 (.passQueryReceived src (num p 0 4)) else none
  | _ => none

/-- The command that a frame received whole is dispatched as at station `station`; none when it is
disregarded (R119). -/
def dispatchFrame (station : Nat) (ackSeen : Bool) (f : Frame) : Option Instr :=
  let own := isStation station && (f.dest == station)
  if f.src = 15 then
    if f.dest = 0 then consoleShared false f.kind f.payload
    else if own then
      match consoleShared true f.kind f.payload with
      | some c => some c
      | none => consoleOwn f.kind f.payload
    else none
  else if isStation f.src then
    if f.dest = 0 then peerBroadcast f.kind f.src f.payload
    else if isStation f.dest then peerAddressed own ackSeen f.kind f.src f.dest f.payload
    else none
  else none

/-- The command that the bytes heard on the pair spell at a station (R111, R119); `ackSeen` says whether
the acknowledge field was driven. A frame disregarded for its source or destination bears no source to
test (R111); one disregarded says whether it was addressed to this station (R120). -/
def receive (station : Nat) (ackSeen : Bool) (bs : List Byte) : Instr :=
  match parseFrame bs with
  | none => .frameDamaged
  | some f =>
    let own := isStation station && (f.dest == station)
    if f.src = 0 ∨ 15 < f.dest then .frameDisregarded ⟨0, own⟩
    else (dispatchFrame station ackSeen f).getD (.frameDisregarded ⟨f.src, own⟩)

/-- The bytes of another party's frame are heard: its command joins the queue. -/
def State.hear (s : State) (ackSeen : Bool) (bs : List Byte) : State :=
  { s with pending := s.pending ++ [receive s.link.station ackSeen bs] }

/-! ### The lane port (R173, R175)

DESIGN CHOICE (log 49): R175 disregards a head message with an unknown code and a note of more than four services;
a note or bar message with an unknown code, and any message of a length its code does not call for, is disregarded
in the same way. -/

/-- The command of a message on the note line; none when it is disregarded, as one of another code or length is
(DESIGN CHOICE, log 49). -/
def notePort (bs : List Byte) : Option Instr :=
  if bs.head? = some 0x01#8 ∧ num bs 3 1 ≤ 4 ∧ bs.length = 4 + num bs 3 1 then
    some (.noteArrival (num bs 1 1) (num bs 2 1) (byteValues (bs.drop 4)))
  else none

/-- The command of a message on the bar reading line; one of another code or length is disregarded (DESIGN CHOICE,
log 49). -/
def barPort (bs : List Byte) : Option Instr :=
  match num bs 0 1, bs.length with
  | 1, 5 => some (.barReading (num bs 1 2) (num bs 3 2))
  | 2, 1 => some .barNoRead
  | _, _ => none

/-- The command of a message from the head; one of an unknown code is disregarded (R175), and so is one of a length
its code does not call for (DESIGN CHOICE, log 49). -/
def headPort (bs : List Byte) : Option Instr :=
  match num bs 0 1, bs.length with
  | 0x11, 1 => some .headReady
  | 0x12, 1 => some .headNotReady
  | 0x13, 5 => some (.printDone (num bs 1 4))
  | 0x14, 6 => some (.printFault (num bs 1 4) (num bs 5 1))
  | _, _ => none

end Sys2Proof.Machine
end

