-- ==== Sys2Proof/Safety.lean ====
section
/-! DEFINITION. What safety means on this hardware: the invariants of the funds and of the lane that every
step keeps. -/

namespace Sys2Proof.Machine

/-- The write in progress raises available by this amount at its completion. -/
def Claim.raises : Claim → Nat
  | .lotIn _ _ amount => amount
  | .refill _ amount => amount
  | _ => 0

/-- What the write in progress will add to available. -/
def Funds.incoming (f : Funds) : Nat :=
  match f.arbiter.writing with
  | some c => c.raises
  | none => 0

/-- Capacity (R83, R84, R86): available, the outbound amount and the funds being written never exceed the
top of available, so that a passage returned NOT TAKEN always fits. -/
def State.withinCapacity (s : State) : Prop :=
  s.funds.store.available + s.funds.store.outboundAmount + s.funds.incoming ≤ Config.maxAvailable

/-- A LOT OUT START being written moves no more than available (R85). -/
def State.lotCovered (s : State) : Prop :=
  ∀ dest amount purpose, s.funds.arbiter.writing = some (.lotOutStart dest amount purpose) →
    amount ≤ s.funds.store.available

/-- The laws of the bank directory (R45, R51): at most one bank LOADING or PENDING, at most one CURRENT, and
on a powered part with a valid clock a PENDING bank's effective date is later than the franking date. -/
def State.bankLaws (s : State) : Prop :=
  ¬((s.rate.bankA.isLoading ∨ s.rate.bankA.isPending) ∧ (s.rate.bankB.isLoading ∨ s.rate.bankB.isPending)) ∧
    ¬(s.rate.bankA.isCurrent ∧ s.rate.bankB.isCurrent) ∧
    ∀ i e, (s.rate.bank i).isPending = true → (s.rate.bank i).effective = some e → s.powered = true →
      s.clock.invalid = false → s.clock.date.before e = true

/-- Outside RUNNING and DRAINING the track is empty (R23, R154, R155). -/
def State.trackMatchesLane (s : State) : Prop :=
  s.pacing.lane.moving = false → s.track.records = []

/-- The ring holds at most 1,024 entries, bearing every number from the oldest to the newest (R162). -/
def Store.ringSound (st : Store) : Prop :=
  st.ring.length ≤ Config.ringSize ∧ st.ring.length < st.nextJournal ∧
    st.ring.map Placed.number =
      (List.range st.ring.length).map (fun i => st.nextJournal - st.ring.length + i)

/-- The journal ring is sound. -/
def State.journalSound (s : State) : Prop := s.funds.store.ringSound

/-- The mirror stands in rising order of station (R129). -/
def State.mirrorRising (s : State) : Prop := s.credit.mirror.Pairwise (fun a b => a.1 < b.1)

/-- Every sticky fault is held at most once, in the fixed order of the table (R166). -/
def State.faultsOrdered (s : State) : Prop :=
  (s.status.faults.map StickyFault.order).Pairwise (· < ·)

end Sys2Proof.Machine
end

