-- ==== Sys2Proof/Certificates/Slice0/Obligations.lean ====
section
/-! DEFINITION. The statements for the provers, from the numbered rules of spec/. Where a statement says
`State.settle u`, u is what the command itself leaves, and settle is what follows in the same step: the
arbiter's grants (R79), the engine's next tag (R59), the feed gate's closing (R8), the idle test (R157). -/

namespace Sys2Proof.Machine

/-- Commands that write the funds store: the completions of its writes, and the two resets. -/
def writesStore : Instr → Bool
  | .debitComplete _ => true
  | .lotInComplete _ => true
  | .refillComplete _ => true
  | .lotOutStartComplete _ => true
  | .lotOutEndComplete _ => true
  | .settleNotTakenComplete _ => true
  | .runMarkComplete _ => true
  | .journalAppendComplete _ => true
  | .powerUp .. => true
  | .warmReset .. => true
  | _ => false

/-- The two resets and the loss of power. -/
def resets : Instr → Bool
  | .powerUp .. => true
  | .warmReset .. => true
  | .powerLoss => true
  | _ => false

/-- Commands that step the encoder or show an edge to an eye. -/
def movesInterface : Instr → Bool
  | .encoderStep _ => true
  | .infeedLeadEdge => true
  | .infeedTrailEdge => true
  | .downstreamLeadEdge _ => true
  | .downstreamTrailEdge _ => true
  | _ => false

/-- A SETTLE. -/
def isSettle : Instr → Bool
  | .settle _ => true
  | _ => false

/-- A CLEAR. -/
def isClear : Instr → Bool
  | .clear .. => true
  | _ => false

/-- The rise of power and the two ends of a clock update, which act on an unpowered part too. -/
def actsUnpowered : Instr → Bool
  | .powerUp .. => true
  | .clockUpdateStart => true
  | .clockUpdateComplete => true
  | _ => false

/-- The records of other pieces: those whose tag is not `tag`. -/
def Track.others (t : Track) (tag : Nat) : List Piece := t.records.filter (fun q => q.tag != tag)

/-- Records with `f` made on every record of a tag. -/
def onTag (tag : Nat) (f : Piece → Piece) (l : List Piece) : List Piece :=
  l.map (fun q => if q.tag = tag then f q else q)

/-- Platform entries with `f` made on every entry of a tag. -/
def onEntry (tag : Nat) (f : PlatformEntry → PlatformEntry) (l : List PlatformEntry) :
    List PlatformEntry :=
  l.map (fun e => if e.tag = tag then f e else e)

end Sys2Proof.Machine

open Sys2Proof Sys2Proof.Machine

/-! ### The whole part -/

/-- A step runs the command at the front of the queue on the state with the queue's rest. -/
def Obligations.StepRunsFrontCommand : Prop :=
  ∀ (c : Instr) (rest : List Instr) (s : State),
    step { s with pending := c :: rest } = exec c { s with pending := rest }

/-- Every command completes in a next state, and none touches the queue. -/
def Obligations.EveryCommandCompletesAndKeepsQueue : Prop :=
  ∀ (c : Instr) (s : State), ∃ t, exec c s = .next t ∧ t.pending = s.pending

/-- Only the completion of a write, and start-up after a reset, changes the non-volatile funds store. Ascending,
the piece count, the next passage number and the next journal number never decrease. -/
def Obligations.StoreChangesOnlyAtWritesAndCountsRise : Prop :=
  (∀ (c : Instr) (s t : State), writesStore c = false → exec c s = .next t →
    t.funds.store = s.funds.store) ∧
  (∀ (c : Instr) (s t : State), exec c s = .next t →
    s.funds.store.ascending ≤ t.funds.store.ascending ∧
      s.funds.store.pieceCount ≤ t.funds.store.pieceCount ∧
      s.funds.store.nextPassage ≤ t.funds.store.nextPassage ∧
      s.funds.store.nextJournal ≤ t.funds.store.nextJournal)

/-- Only the encoder, the eyes and a reset change the encoder count and the edge stamps. The settings of an
accepted SETTLE are held unchanged until the next reset, and so is the station number. -/
def Obligations.InterfaceSettingsAndStationHeld : Prop :=
  (∀ (c : Instr) (s t : State), movesInterface c = false → resets c = false → exec c s = .next t →
    t.io = s.io) ∧
  (∀ (c : Instr) (s t : State), resets c = false → exec c s = .next t →
    t.link.station = s.link.station ∧ (isSettle c = false → t.pacing.settings = s.pacing.settings))

/-- No command changes the contents of a PENDING, CURRENT or RETIRING bank. -/
def Obligations.ProtectedBankContentsUnchanged : Prop :=
  ∀ (c : Instr) (s t : State) (i : BankId), exec c s = .next t →
    ((s.rate.bank i).isPending ∨ (s.rate.bank i).isCurrent ∨ (s.rate.bank i).isRetiring) →
    (t.rate.bank i).rounding = (s.rate.bank i).rounding ∧ (t.rate.bank i).zones = (s.rate.bank i).zones ∧
      (t.rate.bank i).classes = (s.rate.bank i).classes ∧
      (t.rate.bank i).surcharges = (s.rate.bank i).surcharges

/-- A sticky fault stays held under every command but CLEAR and the resets. -/
def Obligations.StickyFaultsHeldUntilCleared : Prop :=
  ∀ (c : Instr) (s t : State) (n : Nat), isClear c = false → resets c = false → exec c s = .next t →
    s.status.holds n = true → t.status.holds n = true

/-! ### Invariants of every step -/

/-- Available, the outbound amount and the funds being written stay within the top of available, so that a
passage returned NOT TAKEN always fits. -/
def Obligations.FundsWithinCapacityKept : Prop :=
  ∀ s t : State, s.withinCapacity ∧ s.lotCovered → step s = .next t → t.withinCapacity ∧ t.lotCovered

/-- Outside RUNNING and DRAINING the track is empty. -/
def Obligations.StillLaneHasEmptyTrackKept : Prop :=
  ∀ s t : State, s.trackMatchesLane → step s = .next t → t.trackMatchesLane

/-- The ring holds at most 1,024 entries, bearing every number from the oldest held to the newest held. -/
def Obligations.JournalRingUnbrokenKept : Prop :=
  ∀ s t : State, s.journalSound → step s = .next t → t.journalSound

/-- Each sticky fault is held at most once, in the fixed order. -/
def Obligations.FaultsHeldOnceInOrderKept : Prop :=
  ∀ s t : State, s.faultsOrdered → step s = .next t → t.faultsOrdered

/-- The laws of the bank directory. -/
def Obligations.BankDirectoryLawsKept : Prop :=
  ∀ s t : State, s.bankLaws → step s = .next t → t.bankLaws

/-- The invariants hold right after reset. -/
def Obligations.InvariantsHoldAtReset : Prop :=
  State.reset.withinCapacity ∧ State.reset.lotCovered ∧ State.reset.trackMatchesLane ∧
    State.reset.journalSound ∧ State.reset.faultsOrdered ∧ State.reset.bankLaws

/-! ### Frames and their bytes -/

/-- A kind that a station takes, with a payload of the length that R171 gives it. STATUS and JOURNAL are taken by no
station (R119); a RATE LOAD has the length of its segment kind byte. -/
def Sys2Proof.Machine.LengthOfKind (kind : Nat) (payload : List Byte) : Prop :=
  (kind, payload.length) ∈
      [(0x01, 5), (0x02, 3), (0x03, 0), (0x04, 0), (0x10, 4), (0x11, 9), (0x12, 4), (0x20, 24), (0x21, 0),
       (0x30, 48), (0x31, 6), (0x32, 8), (0x34, 5), (0x35, 2), (0x36, 6), (0x37, 1), (0x38, 0), (0x39, 0),
       (0x3A, 0), (0x3B, 1), (0x3C, 1), (0x3D, 5), (0x3E, 4), (0x3F, 5)] ∨
    (kind = 0x33 ∧
      ((payload[3]? = some 1#8 ∧ payload.length = 13) ∨
        (payload[3]? = some 2#8 ∧ ∃ prices, payload.length = 6 + 3 * prices) ∨
        (payload[3]? = some 3#8 ∧ payload.length = 24)))

/-- The sources and destinations that station `station` takes a kind with (R119): the console's kinds from 15, some
also broadcast; a station's kinds from 1 to 14, broadcast, or addressed to the own number, a LOT PASS to any. -/
def Sys2Proof.Machine.KindCarries (kind src dest station : Nat) : Prop :=
  (src = 15 ∧
    ((dest = 0 ∧ kind ∈ [0x32, 0x33, 0x34, 0x35, 0x36, 0x37, 0x38, 0x39, 0x3B]) ∨
      (dest = station ∧ 0x30 ≤ kind ∧ kind ≤ 0x3F))) ∨
  (1 ≤ src ∧ src ≤ 14 ∧
    ((dest = 0 ∧ kind ∈ [0x02, 0x03, 0x04, 0x10, 0x20, 0x21]) ∨
      (1 ≤ dest ∧ dest ≤ 14 ∧ (kind = 0x11 ∨ (dest = station ∧ kind ∈ [0x01, 0x12])))))

/-- A station's broadcast, as its bytes stand on the pair, is received as the command that its message says. A
station's addressed frame is received by its destination as the command it says, a LOT PASS by every other
station with its acknowledge, and a query or an answer by no other station. Every frame of an unknown kind, of
a length its kind does not call for, or of a source or a destination that its kind does not have, a source above 15 with
them, is disregarded, and the command says whether it was addressed here. That a RATE LOAD of an unknown segment kind is one of them is the
model's choice (log 53). Bytes that do not begin with the start delimiter, give a length above 48, end before or after
their length, or bear another check are a damaged frame. -/
def Obligations.StationFramesReceivedAsSent : Prop :=
  (∀ (src station : Nat) (ack : Bool), isStation src = true →
    (∀ d : Date, d.spelled = true →
      receive station ack ((Msg.dayTurn d).wire src 0) = .dayTurnReceived src d) ∧
    receive station ack (Msg.hold.wire src 0) = .holdReceived src ∧
    receive station ack (Msg.wake.wire src 0) = .wakeReceived src ∧
    (∀ amount : Nat, fits 4 amount = true →
      receive station ack ((Msg.creditAsk amount).wire src 0) = .creditAskReceived src amount) ∧
    (∀ h : HoldingsFrame, h.spelled = true →
      receive station ack ((Msg.holdings h).wire src 0) = .holdingsReceived src h) ∧
    receive station ack (Msg.hush.wire src 0) = .hushReceived src) ∧
  (∀ (src station dest passage amount : Nat) (ack : Bool) (o : PassOutcome) (p : Purpose),
    isStation src = true → isStation station = true → isStation dest = true → dest ≠ station →
    fits 4 passage = true → fits 4 amount = true →
    receive station ack ((Msg.passAnswer passage o).wire src station) =
        .passAnswerReceived src passage o.code ∧
      receive station ack ((Msg.passQuery passage).wire src station) =
        .passQueryReceived src passage ∧
      receive station ack ((Msg.lotPass passage amount p).wire src station) =
        .lotPassReceived src passage amount p.code ∧
      receive station ack ((Msg.lotPass passage amount p).wire src dest) =
        .lotPassHeard src dest passage amount p.code ack ∧
      receive station ack ((Msg.passQuery passage).wire src dest) = .frameDisregarded ⟨src, false⟩ ∧
      receive station ack ((Msg.passAnswer passage o).wire src dest) = .frameDisregarded ⟨src, false⟩) ∧
  (∀ (kind src dest station : Nat) (ack : Bool) (payload : List Byte), isStation station = true →
    kind < 256 → src < 256 → dest < 256 → payload.length ≤ 48 →
    (1 ≤ src → dest ≤ 15 → ¬ (LengthOfKind kind payload ∧ KindCarries kind src dest station) →
      receive station ack (frameBytes kind src dest payload) =
        .frameDisregarded ⟨src, decide (dest = station)⟩) ∧
    (src = 0 ∨ 15 < dest →
      receive station ack (frameBytes kind src dest payload) = .frameDisregarded ⟨0, decide (dest = station)⟩)) ∧
  ∀ (station : Nat) (ack : Bool) (bs : List Byte),
    (bs.head? ≠ some 0xA5#8 → receive station ack bs = .frameDamaged) ∧
    (bs[4]? = none → receive station ack bs = .frameDamaged) ∧
    (∀ n : Byte, bs[4]? = some n → 48 < n.toNat ∨ bs.length ≠ 7 + n.toNat →
      receive station ack bs = .frameDamaged) ∧
    ∀ covered check : List Byte, bs = 0xA5#8 :: covered ++ check → check.length = 2 →
      check ≠ be 2 (checkBytes 0xFFFF#16 covered).toNat → receive station ack bs = .frameDamaged

/-- The fields of a SETTLE record in their order, each with its width in bits (R172). -/
def Sys2Proof.Machine.settlePacked (r : SettleRecord) : List (Nat × Nat) :=
  [(14, r.p0), (14, r.p1), (14, r.bar), (14, r.decision), (14, r.arm), (14, r.print), (14, r.exit),
    (11, r.window), (9, r.tolerance), (11, r.settleDistance), (12, r.gap),
    (1, if r.notePresent then 1 else 0), (3, r.noteCount), (8, r.noteClass), (8, r.noteZone)] ++
  r.noteServices.map (fun v => (8, v)) ++
  [(27, r.feedFloor), (16, r.referenceZero), (6, r.minSamples), (9, r.steadiness), (27, r.lowMark),
    (30, r.keepAmount), (27, r.askAmount), (14, r.askTimeout), (16, r.lineId), (10, r.idleSpan),
    (4, r.heatFactor), (4, r.creditFactor)]

/-- Fields packed one after the other, the first the most significant (R172). -/
def Sys2Proof.Machine.packFields (l : List (Nat × Nat)) : Nat := l.foldl (fun a f => a * 2 ^ f.1 + f.2) 0

/-- The console's frames with their kinds and payload layouts are received as their commands, SETTLE with its
packed record among them; the one bit after its fields is not looked at (log 48). -/
def Obligations.ConsoleFramesReceived : Prop :=
  ∀ (station : Nat) (ack : Bool), isStation station = true →
    (∀ (r : SettleRecord) (padding : Nat), r.spelled = true → padding < 2 →
      receive station ack
          (frameBytes 0x30 15 station (be 48 (packFields (settlePacked r ++ [(1, padding)])))) =
        .settle r) ∧
    (∀ serial amount : Nat, fits 2 serial = true → fits 4 amount = true →
      receive station ack (frameBytes 0x31 15 station (be 2 serial ++ be 4 amount)) =
        .refill serial amount) ∧
    (∀ dest amount : Nat, fits 1 dest = true → fits 4 amount = true →
      receive station ack (frameBytes 0x3F 15 station (be 1 dest ++ be 4 amount)) = .remit dest amount) ∧
    (∀ page : Nat, fits 1 page = true →
      receive station ack (frameBytes 0x3C 15 station (be 1 page)) = .poll page) ∧
    (∀ faults counters : Nat, fits 4 faults = true → fits 1 counters = true →
      receive station ack (frameBytes 0x3D 15 station (be 4 faults ++ be 1 counters)) =
        .clear faults counters) ∧
    (∀ n : Nat, fits 4 n = true →
      receive station ack (frameBytes 0x3E 15 station (be 4 n)) = .journalRead n) ∧
    receive station ack (frameBytes 0x3A 15 station []) = .resume ∧
    ∀ dest : Nat, dest = 0 ∨ dest = station →
      let own : Bool := decide (dest = station)
      receive station ack (frameBytes 0x38 15 dest []) = .lineRun own ∧
      receive station ack (frameBytes 0x39 15 dest []) = .lineStop own ∧
      (∀ v : Nat, fits 1 v = true →
        receive station ack (frameBytes 0x37 15 dest (be 1 v)) = .postdate own v ∧
        receive station ack (frameBytes 0x3B 15 dest (be 1 v)) = .throttle own v) ∧
      (∀ (d : Date) (t : TimeOfDay), d.spelled = true → t.spelled = true →
        receive station ack (frameBytes 0x36 15 dest (dateBytes d ++ timeBytes t)) = .dateSet own d t) ∧
      (∀ (g rounding zones : Nat) (d : Date), fits 2 g = true → fits 2 rounding = true →
        fits 1 zones = true → d.spelled = true →
        receive station ack
            (frameBytes 0x32 15 dest (be 2 g ++ dateBytes d ++ be 2 rounding ++ be 1 zones)) =
          .rateBegin own g d rounding zones) ∧
      (∀ g count check : Nat, fits 2 g = true → fits 1 count = true → fits 2 check = true →
        receive station ack (frameBytes 0x34 15 dest (be 2 g ++ be 1 count ++ be 2 check)) =
          .rateFinish own g count check) ∧
      (∀ g : Nat, fits 2 g = true →
        receive station ack (frameBytes 0x35 15 dest (be 2 g)) = .rateDrop own g) ∧
      (∀ (g index : Nat) (seg : Segment), fits 2 g = true → fits 1 index = true → seg.spelled = true →
        receive station ack (frameBytes 0x33 15 dest (be 2 g ++ be 1 index ++ segmentBytes seg)) =
          .rateLoad own g index seg)

/-! ### A change of lane state -/

/-- A HOLDINGS is asked for, marked fresh or not: a request that replaces a waiting one keeps the fresh mark if either
was marked (R125); while one is being sent, it stands for the next attempt (R113). -/
def Sys2Proof.Machine.HoldingsAsked (s u : State) (fresh : Bool) : Prop :=
  (s.link.sending .holdings = true →
    ∃ f, (u.link.slots.get .holdings).later = some (some (.holdings f)) ∧ (fresh = true → f = true)) ∧
  (s.link.sending .holdings = false →
    ∃ f, u.link.slots.holdings = .holding (.holdings f) ∧ (fresh = true → f = true) ∧
      (s.link.slots.holdings = .empty → f = fresh) ∧
      ∀ waiting, s.link.slots.holdings = .holding (.holdings waiting) → f = (fresh || waiting))

/-- What a change of lane state that abandons nothing leaves as it was. -/
def Sys2Proof.Machine.KeptByLane (s u : State) : Prop :=
  u.io = s.io ∧ u.track = s.track ∧ u.weigh = s.weigh ∧ u.rate = s.rate ∧ u.engine = s.engine ∧
    u.print = s.print ∧ u.clock = s.clock ∧ u.status = s.status ∧ u.funds.store = s.funds.store ∧
    u.funds.reserved = s.funds.reserved ∧ u.funds.unfunded = s.funds.unfunded ∧
    u.funds.queue = s.funds.queue ∧ u.pacing.settings = s.pacing.settings ∧
    u.pacing.consoleFactor = s.pacing.consoleFactor ∧ u.pacing.button = s.pacing.button ∧
    u.pacing.hot = s.pacing.hot

/-- A RUN MARK is claimed to set or to clear (R88): granted at once by an idle arbiter when the mark does not stand so
and STORE FAULT is not current, and otherwise waiting, in the place of one that waits (log 59). -/
def Sys2Proof.Machine.RunMarkClaimed (s u : State) (set : Bool) : Prop :=
  let a := s.funds.arbiter
  let atOnce : Prop := a.idle = true ∧ s.funds.storeFault = false ∧ s.funds.store.runMark.isSome ≠ set
  (atOnce → u.funds.arbiter = { a with writing := some (.runMark set) }) ∧
  (¬ atOnce →
    u.funds.arbiter = { a with print := u.funds.arbiter.print } ∧
    ((∀ x, Claim.runMark x ∉ a.print) → u.funds.arbiter.print = a.print ++ [.runMark set]) ∧
    ∀ before after old, a.print = before ++ .runMark old :: after → (∀ x, Claim.runMark x ∉ before) →
      u.funds.arbiter.print = before ++ .runMark set :: after)

/-- The lane has passed to a new state other than OFF-LINE, with nothing abandoned (R152): the marks of a drain go;
outside RUNNING and DRAINING the pacing unit's timers, the heat factor and an objection window end (R158, R160), and on
entering them the heat timer starts if the head temperature input is high (R160, log 33). The RUN MARK is claimed set on
entering RUNNING and clear on entering READY or QUIET (R88). A HOLDINGS is asked for, fresh in READY (R125). The open
ask closes outside RUNNING and DRAINING (R128), and the asking test is made (R127). -/
def Sys2Proof.Machine.LaneEntered (s u : State) (lane : Lane) : Prop :=
  let moving : Prop := lane = .running ∨ lane = .draining
  let wanting (g : Settings) : Prop := s.pacing.settings = some g ∧ moving ∧
    (s.funds.store.available - s.funds.reserved < g.lowMark ∨ s.funds.unfunded ≠ [])
  let free : Prop := s.credit.ask = none ∧ s.link.mute = false ∧ s.credit.remit = none ∧
    s.credit.backOff = none
  KeptByLane s u ∧
  (moving →
    u.pacing =
      { s.pacing with
        lane := lane, drainScale := false, drainHead := false,
        heatTimer := if s.pacing.lane.moving = false ∧ s.pacing.hot = true then some 2000
          else s.pacing.heatTimer }) ∧
  (¬ moving →
    u.pacing =
      { s.pacing with
        lane := lane, drainScale := false, drainHead := false, holdTimer := none, heatTimer := none,
        heatActive := false, idleTimer := none, window := none }) ∧
  (lane = .running → RunMarkClaimed s u true) ∧
  (lane = .ready ∨ lane = .quiet → RunMarkClaimed s u false) ∧
  (lane = .draining ∨ lane = .stopped → u.funds.arbiter = s.funds.arbiter) ∧
  HoldingsAsked s u (decide (lane = .ready)) ∧
  u.credit = { s.credit with ask := u.credit.ask, creditShort := u.credit.creditShort } ∧
  (¬ moving → u.credit.ask = none ∧
    (s.credit.ask ≠ none → s.link.sending .creditAsk = false → u.link.slots.creditAsk = .empty)) ∧
  ((∀ g, ¬ wanting g) → u.credit.creditShort = false ∧ (moving → u.credit.ask = s.credit.ask)) ∧
  (∀ g, wanting g →
    u.credit.creditShort = s.credit.creditShort ∧
    (free → u.credit.ask = some ⟨g.askAmount, g.askTimeout⟩ ∧
      (s.link.sending .creditAsk = false → u.link.slots.creditAsk = .holding .creditAsk)) ∧
    (¬ free → u.credit.ask = s.credit.ask)) ∧
  u.link = { s.link with slots := u.link.slots, ack := u.link.ack } ∧
  ∀ i, i ≠ .holdings → i ≠ .creditAsk → u.link.slots.get i = s.link.slots.get i

/-- A record has left the track queue, and the report of an empty queue ends a drain (R20, R22, R154): `v` stands before
that report, and with its queue empty a DRAINING lane passes to STOPPED if the head mark is set and to READY if not, both
marks cleared, with all that a change of lane state brings; otherwise nothing follows. -/
def Sys2Proof.Machine.DrainFollows (v u : State) : Prop :=
  let lane : Lane := if v.pacing.drainHead then .stopped else .ready
  (v.track.records = [] → v.pacing.lane = .draining → u.pacing.lane = lane ∧ LaneEntered v u lane) ∧
  (v.track.records ≠ [] ∨ v.pacing.lane ≠ .draining → u = v)

/-- The HEAD FAULT condition once only the records `left` are on the track: at a report of an empty queue it ends with
the head READY (R105). -/
def Sys2Proof.Machine.headFaultAfter (s : State) (left : List Piece) : Bool :=
  if left = [] ∧ s.print.headReady = true then false else s.print.headFault

/-! ### The belt -/

/-- A step of forward travel adds 1 to the encoder count and a step of reverse travel subtracts 1, modulo 2^32;
nothing else changes. In OFF-LINE, READY, QUIET and STOPPED an edge is stamped and disregarded; a downstream
trail edge is in every lane state. That an infeed lead edge disregarded there leaves a grace of the feed gate in force
is the model's choice (log 61): R8 ends the grace at the first infeed lead edge after the closing, R3 has the edge
disregarded. -/
def Obligations.EncoderStepsAndStillLaneEdges : Prop :=
  (∀ (dir : Travel) (s : State), s.powered = true →
    exec (.encoderStep dir) s = .next
      { s with io := { s.io with encoder :=
          match dir with
          | .forward => s.io.encoder + 1
          | .reverse => s.io.encoder - 1 } }) ∧
  (∀ s : State, s.powered = true →
    (∀ edge : Edge, s.pacing.lane.moving = false →
      exec (match edge with | .lead => .infeedLeadEdge | .trail => .infeedTrailEdge) s =
        .next { s with io := { s.io with infeed := ⟨some edge, some s.io.encoder⟩ } }) ∧
    (s.pacing.lane.moving = false →
      exec (.downstreamLeadEdge .print) s =
          .next { s with io := { s.io with print := ⟨some .lead, some s.io.encoder⟩ } } ∧
        exec (.downstreamLeadEdge .exit) s =
          .next { s with io := { s.io with exit := ⟨some .lead, some s.io.encoder⟩ } }) ∧
    exec (.downstreamTrailEdge .print) s =
      .next { s with io := { s.io with print := ⟨some .trail, some s.io.encoder⟩ } } ∧
    exec (.downstreamTrailEdge .exit) s =
      .next { s with io := { s.io with exit := ⟨some .trail, some s.io.encoder⟩ } })

/-- An infeed lead edge with the gate OPEN, or within the grace distance, makes a record at the tail of the
track queue with its note, its tag and its two expectations, and closes the gate. -/
def Obligations.AdmittedEdgeMakesRecord : Prop :=
  ∀ (s : State) (g : Settings), s.powered = true → s.pacing.lane.moving = true →
    s.pacing.settings = some g →
    (s.track.gateOpen = true ∨
      ∃ c, s.track.grace = some c ∧
        reached s.io.encoder (c + BitVec.ofNat 32 g.geometry.tolerance + 1) = false) →
    ∃ r : Piece,
      r.tag = s.track.tagCounter ∧ r.lead = s.io.encoder ∧
      r.note = (match s.track.notes with | n :: _ => some n | [] => g.defaultNote) ∧
      r.state = (if r.note.isSome then .entering else .failed) ∧
      r.reason = (if r.note.isSome then none else some (.divert .noNote)) ∧
      r.reserved = false ∧ r.trail = none ∧ r.length = none ∧ r.weight = none ∧ r.width = none ∧
      r.thickness = none ∧ r.sampled = none ∧ r.printed = none ∧ r.generation = none ∧
      r.postage = none ∧ r.pieceNumber = none ∧ r.imprint = none ∧
      r.marks = ⟨false, false, false, false, false, false⟩ ∧
      exec .infeedLeadEdge s = .next (State.settle
        { s with
          io := { s.io with infeed := ⟨some .lead, some s.io.encoder⟩ },
          track := { s.track with
            records := s.track.records ++ [r], notes := s.track.notes.drop 1, gateOpen := false,
            grace := none, lastAdmission := some s.io.encoder,
            tagCounter := (s.track.tagCounter + 1) % 256,
            printExpected := s.track.printExpected ++
              [⟨s.track.tagCounter, s.io.encoder + BitVec.ofNat 32 g.geometry.print⟩],
            exitExpected := s.track.exitExpected ++
              [⟨s.track.tagCounter, s.io.encoder + BitVec.ofNat 32 g.geometry.exit⟩] } })

/-- An infeed trail edge gives the newest record its trail count and its length in twentieths of a millimetre
(log 6), passes it to MEASURING, or to READY TO RATE when nothing else is wanting, and gives its platform
entry the count. A record FAILED stays FAILED. An infeed trail edge that completes no record is taken for a
divert hold waiting on it, which then ends when the belt reaches that count plus the decision position;
otherwise it is disregarded. -/
def Obligations.TrailEdgeCompletesRecordOrHold : Prop :=
  (∀ (s : State) (g : Settings) (p : Piece), s.powered = true → s.pacing.lane.moving = true →
    s.pacing.settings = some g → s.track.records.getLast? = some p → s.track.find p.tag = some p →
    p.trail = none → p.state = .entering ∨ p.state = .failed →
    let c := s.io.encoder
    let ready : Bool := (p.state == .entering) && p.note.isSome && p.weight.isSome && p.width.isSome &&
      p.thickness.isSome
    exec .infeedTrailEdge s = .next (State.settle
      { s with
        io := { s.io with infeed := ⟨some .trail, some c⟩ },
        track := { s.track with
          records := onTag p.tag (fun q =>
            { q with trail := some c, length := some ((c - q.lead).toNat * 5),
                     state :=
                      if ready then .readyToRate
                      else if q.state = .entering then .measuring else q.state }) s.track.records },
        weigh := { s.weigh with
          platform := onEntry p.tag (fun e =>
            { e with trail := if e.trail = none then some c else e.trail }) s.weigh.platform },
        engine := { s.engine with
          queue := if ready then s.engine.queue ++ [p.tag] else s.engine.queue } })) ∧
  (∀ (s : State) (g : Settings), s.powered = true → s.pacing.lane.moving = true →
    s.pacing.settings = some g → (∀ p, s.track.records.getLast? = some p → p.trail.isSome = true) →
    let c := s.io.encoder
    let stamped : Io := { s.io with infeed := ⟨some .trail, some c⟩ }
    (∀ tag, s.track.divertHold = some (.onTrail tag) →
      exec .infeedTrailEdge s = .next
        { s with
          io := stamped,
          track := { s.track with
            divertHold := some (.untilCount (c + BitVec.ofNat 32 g.geometry.decision)) },
          weigh := { s.weigh with
            platform := onEntry tag (fun e =>
              { e with trail := if e.trail = none then some c else e.trail }) s.weigh.platform } }) ∧
    ((∀ tag, s.track.divertHold ≠ some (.onTrail tag)) →
      exec .infeedTrailEdge s = .next { s with io := stamped }))

/-- The entry offered for a record at abandonment, and none for one that has an outcome, is PRINTED or is ARMED,
whose entry stays on the armed list (R23, R108). -/
def Sys2Proof.Machine.abandonedEntry (p : Piece) : Option Entry :=
  if p.hasOutcome then none
  else if p.state = .debited ∨ p.state = .printing then
    some (.spoiled p.tag p.pieceNumber .stopped p.facts)
  else if p.state = .printed ∨ p.state = .armed then none
  else some (.abandoned p.tag p.facts)

/-- The reference mark of a bank is cleared; a RETIRING bank becomes FREE (R53, R54). -/
def Sys2Proof.Machine.MarkCleared (b b' : Bank) : Prop :=
  (b.state = .retiring →
    b' = { b with state := .free, generation := none, effective := none, named := false }) ∧
  (b.state ≠ .retiring → b' = { b with named := false })

/-- A bank that holds a generation (section 3.1). -/
def Sys2Proof.Machine.Holds (b : Bank) (g : Nat) : Prop := b.state ≠ .free ∧ b.generation = some g

/-- What abandonment does with the records, each by its state (R23, R108): the entries of those that have one, in
the order of the records; the reservations released of those not past ACCEPTED; ABORT for each that is PRINTING;
those PRINTED counted as franked; the armed list kept; and every generation on the track departed. That the
HEAD FAULT condition ends with the head READY is the model's choice (log 43). -/
def Sys2Proof.Machine.AbandonedFrom (s u : State) : Prop :=
  let records := s.track.records
  let released := records.filter (fun p => p.reserved && (match abandonedEntry p with
    | some (.abandoned ..) => true
    | _ => false))
  let printing := records.filter (fun p => !p.hasOutcome && (p.state == .printing))
  let printed := records.filter (fun p => !p.hasOutcome && (p.state == .printed))
  u.funds.queue = s.funds.queue ++ records.filterMap abandonedEntry ∧
  u.funds.reserved = s.funds.reserved - (released.map (fun p => p.postage.getD 0)).sum ∧
  u.funds.store = s.funds.store ∧ u.print.armed = s.print.armed ∧
  u.print.headOut = s.print.headOut ++ printing.map (fun p => .abort (p.pieceNumber.getD 0)) ∧
  u.print.printing =
    s.print.printing.filter (fun e => printing.all (fun p => e.piece != p.pieceNumber.getD 0)) ∧
  u.print.franked =
    (if printed = [] then s.print.franked else min 4294967295 (s.print.franked + printed.length)) ∧
  u.print.headReady = s.print.headReady ∧
  (u.print.headFault = true ↔ s.print.headFault = true ∧ (records = [] ∨ s.print.headReady = false)) ∧
  ((∀ g, ¬ (Holds s.rate.bankA g ∧ Holds s.rate.bankB g)) → ∀ i,
    ((∃ p ∈ records, ∃ g, p.generation = some g ∧ Holds (s.rate.bank i) g) →
      MarkCleared (s.rate.bank i) (u.rate.bank i)) ∧
    ((∀ p ∈ records, ∀ g, p.generation = some g → ¬ Holds (s.rate.bank i) g) →
      u.rate.bank i = s.rate.bank i))

/-- The lane is STOPPED with the track abandoned, and the fault of an order stands, with the detail `f`
unless one of its kind was held before (R23, R155, R166). -/
def Sys2Proof.Machine.StoppedWith (s u : State) (f : StickyFault) : Prop :=
  u.pacing.lane = .stopped ∧ u.track.records = [] ∧ u.track.notes = [] ∧ u.track.gateOpen = false ∧
    u.track.grace = none ∧ u.track.divertHold = none ∧ u.track.printExpected = [] ∧
    u.track.exitExpected = [] ∧ u.track.tagCounter = s.track.tagCounter ∧
    u.track.lastAdmission = s.track.lastAdmission ∧ u.weigh.platform = [] ∧ u.weigh.barQueue = [] ∧
    u.weigh.zero = s.weigh.zero ∧ u.engine = { queue := [], rating := none } ∧ u.funds.unfunded = [] ∧
    u.credit.ask = none ∧ u.status.fault? f.order = some ((s.status.fault? f.order).getD f) ∧
    AbandonedFrom s u

/-- An infeed lead edge that nothing admitted, a downstream lead edge with no expectation within the
tolerance, and an expectation passed unmatched each raise their fault and put the lane STOPPED with
abandonment, which settles each record by its state: an ABANDONED entry and the release of its reservation up
to ACCEPTED, SPOILED STOPPED past its debit with an ABORT while PRINTING, franked when PRINTED, its armed entry
kept while ARMED. That the track-empty report then ends the HEAD FAULT condition, and that a PRINTED record raises the
franked counter, are the model's choices (logs 43, 57). -/
def Obligations.UnexpectedEdgesStopLane : Prop :=
  ∀ (s : State) (g : Settings), s.powered = true → s.pacing.lane.moving = true →
    s.pacing.settings = some g → s.status.faults.Pairwise (fun a b => a.order < b.order) →
    (s.track.gateOpen = false →
      (∀ c, s.track.grace = some c →
        reached s.io.encoder (c + BitVec.ofNat 32 g.geometry.tolerance + 1) = true) →
      ∃ u : State, exec .infeedLeadEdge s = .next u.settle ∧ StoppedWith s u (.strayPiece .infeed)) ∧
    (∀ eye : DownEye,
      (∀ e, (s.track.expected eye).head? = some e →
        g.geometry.tolerance < (s.io.encoder - e.count).toNat ∧
          g.geometry.tolerance < (e.count - s.io.encoder).toNat) →
      ∃ u : State, exec (.downstreamLeadEdge eye) s = .next u.settle ∧ StoppedWith s u (.strayPiece (downEye eye))) ∧
    ∀ (eye : DownEye) (e : Expectation), (s.track.expected eye).head? = some e →
      reached s.io.encoder (e.count + BitVec.ofNat 32 g.geometry.tolerance + 1) = true →
      ∃ u : State, exec (.jam eye) s = .next u.settle ∧ StoppedWith s u (.jam (downEye eye) e.tag)

/-- The departure of a record is reported to rate memory: when no other record on the track holds its
generation, the mark of the bank holding it is cleared, and a RETIRING bank becomes FREE (R20, R53, R54). -/
def Sys2Proof.Machine.DepartureReported (s u : State) (p : Piece) : Prop :=
  (p.generation = none → u.rate = s.rate) ∧
  ∀ g, p.generation = some g →
    ((∃ q ∈ s.track.others p.tag, q.generation = some g) → u.rate = s.rate) ∧
    ((∀ q ∈ s.track.others p.tag, q.generation ≠ some g) →
      (∀ i, Holds (s.rate.bank i) g → (∀ j, j ≠ i → ¬ Holds (s.rate.bank j) g) →
        MarkCleared (s.rate.bank i) (u.rate.bank i)) ∧
      ∀ j, ¬ Holds (s.rate.bank j) g → u.rate.bank j = s.rate.bank j)

/-- A lead edge at the exit eye within the tolerance of the oldest expectation takes its record off the track; a
PRINTED one is counted as franked, with no journal entry and no reservation released; one with an outcome changes
nothing of the print path or the journal queue; one still PRINTING is aborted and SPOILED NO ANSWER and HEAD FAULT is
raised. Each departure is reported to rate memory, and one that empties the queue ends the HEAD FAULT condition with
the head READY and ends a drain, STOPPED with the head mark and READY without. That a HOLD of the station's own still
waiting stays in its slot where the drain's end ends an objection window (logs 22, 58), and that the RUN MARK claim of a
lane entering READY stands in the place of one that waits (log 59), are the model's choices. The print event of a DEBITED
record: with the clock valid, the sampled date still the franking date and the head READY, IMPRINT is sent and the record is
PRINTING; otherwise no imprint is sent and the record is SPOILED, with a SPOILED entry offered and its imprint still
held (R93). The print event of an ARMED record is held by its armed entry; that of any other only takes the
expectation. -/
def Obligations.PrintAndExitEyesServeRecords : Prop :=
  (∀ (s : State) (g : Settings) (e : Expectation) (p : Piece), s.powered = true →
    s.pacing.lane.moving = true → s.pacing.settings = some g → s.track.exitExpected.head? = some e →
    ((s.io.encoder - e.count).toNat ≤ g.geometry.tolerance ∨
      (e.count - s.io.encoder).toNat ≤ g.geometry.tolerance) →
    s.track.find e.tag = some p → p.state = .printed → p.reason = none →
    ∃ u v : State, exec (.downstreamLeadEdge .exit) s = .next u.settle ∧ DrainFollows v u ∧
      v.track.records = s.track.others e.tag ∧
      v.track.exitExpected = (s.track.exitExpected.drop 1).filter (fun x => x.tag != e.tag) ∧
      v.track.printExpected = s.track.printExpected.filter (fun x => x.tag != e.tag) ∧
      v.print = { s.print with
        franked := min 4294967295 (s.print.franked + 1),
        headFault := headFaultAfter s (s.track.others e.tag) } ∧
      v.funds = s.funds ∧ v.pacing = s.pacing ∧ v.credit = s.credit ∧ v.link = s.link ∧
      v.status = s.status ∧ v.weigh = s.weigh ∧ v.engine = s.engine ∧ v.clock = s.clock ∧
      DepartureReported s v p) ∧
  (∀ (s : State) (g : Settings) (e : Expectation) (p : Piece), s.powered = true →
    s.pacing.lane.moving = true → s.pacing.settings = some g → s.track.exitExpected.head? = some e →
    ((s.io.encoder - e.count).toNat ≤ g.geometry.tolerance ∨
      (e.count - s.io.encoder).toNat ≤ g.geometry.tolerance) →
    s.track.find e.tag = some p →
    (p.hasOutcome = true →
      ∃ u v : State, exec (.downstreamLeadEdge .exit) s = .next u.settle ∧ DrainFollows v u ∧
        v.track.records = s.track.others e.tag ∧
        v.print = { s.print with headFault := headFaultAfter s (s.track.others e.tag) } ∧
        v.funds = s.funds ∧ v.pacing = s.pacing ∧ v.credit = s.credit ∧ v.link = s.link ∧
        v.status = s.status ∧ v.weigh = s.weigh ∧ v.engine = s.engine ∧ v.clock = s.clock ∧
        DepartureReported s v p) ∧
    (∀ number, p.hasOutcome = false → p.state = .printing → p.pieceNumber = some number →
      ∃ u : State, exec (.downstreamLeadEdge .exit) s = .next u.settle ∧
        u.track.records.map Piece.tag = (s.track.others e.tag).map Piece.tag ∧
        u.funds.queue.take (s.funds.queue.length + 1) =
          s.funds.queue ++ [.spoiled e.tag (some number) .noAnswer p.facts] ∧
        u.print.headOut = s.print.headOut ++
          .abort number ::
            (s.print.printing.filter (fun x => x.piece != number)).map (fun x => .abort x.piece) ∧
        u.print.printing = [] ∧ u.print.franked = s.print.franked ∧ u.status.holds 9 = true ∧
        (s.status.holds 9 = false → StickyFault.headFault number .noAnswer ∈ u.status.faults) ∧
        (s.print.headFault = false → u.print.headFault = true ∧ u.print.headReady = false) ∧
        (s.print.headFault = false → s.pacing.lane = .running →
          u.pacing.lane = if s.track.others e.tag = [] then .stopped else .draining) ∧
        (s.print.headFault = false → s.pacing.lane = .draining →
          u.pacing.lane = (if s.track.others e.tag = [] then .stopped else .draining) ∧
            (s.track.others e.tag ≠ [] → u.pacing = { s.pacing with drainHead := true })) ∧
        (s.print.headFault = true →
          u.print.headReady = s.print.headReady ∧
          u.print.headFault = headFaultAfter s (s.track.others e.tag) ∧
          (s.track.others e.tag ≠ [] ∨ s.pacing.lane ≠ .draining → u.pacing = s.pacing) ∧
          (s.track.others e.tag = [] → s.pacing.lane = .draining →
            u.pacing.lane = if s.pacing.drainHead then .stopped else .ready)) ∧
        u.funds.store = s.funds.store ∧ u.funds.reserved = s.funds.reserved ∧
        DepartureReported s u p)) ∧
  (∀ (s : State) (g : Settings) (e : Expectation) (p : Piece), s.powered = true →
    s.pacing.lane.moving = true → s.pacing.settings = some g → s.track.printExpected.head? = some e →
    ((s.io.encoder - e.count).toNat ≤ g.geometry.tolerance ∨
      (e.count - s.io.encoder).toNat ≤ g.geometry.tolerance) →
    s.track.find e.tag = some p →
    let taken : State :=
      { s with
        io := { s.io with print := ⟨some .lead, some s.io.encoder⟩ },
        track := { s.track with printExpected := s.track.printExpected.drop 1 } }
    (p.state = .armed → p.hasOutcome = false →
      exec (.downstreamLeadEdge .print) s = .next (State.settle
        { taken with print := { s.print with
          armed := s.print.armed.map (fun a =>
            if a.tag = e.tag ∧ a.provisional = none then { a with printEvent := some s.io.encoder }
            else a) } })) ∧
    (p.hasOutcome = true ∨ (p.state ≠ .armed ∧ p.state ≠ .debited) →
      exec (.downstreamLeadEdge .print) s = .next taken.settle)) ∧
  (∀ (s : State) (g : Settings) (e : Expectation) (p : Piece) (i : Imprint) (number : Nat),
    s.powered = true → s.pacing.lane.moving = true → s.pacing.settings = some g →
    s.track.printExpected.head? = some e →
    ((s.io.encoder - e.count).toNat ≤ g.geometry.tolerance ∨
      (e.count - s.io.encoder).toNat ≤ g.geometry.tolerance) →
    s.track.find e.tag = some p → p.state = .debited → p.reason = none → p.imprint = some i →
    p.pieceNumber = some number →
    let io : Io := { s.io with print := ⟨some .lead, some s.io.encoder⟩ }
    let expected := s.track.printExpected.drop 1
    (s.clock.invalid = false → p.sampled = some s.clock.date → s.print.headReady = true →
      exec (.downstreamLeadEdge .print) s = .next (State.settle
        { s with
          io := io,
          track := { s.track with
            printExpected := expected,
            records := onTag e.tag (fun q => { q with state := .printing, imprint := none })
              s.track.records },
          print := { s.print with
            headOut := s.print.headOut ++ [.imprint i],
            printing := s.print.printing ++ [{ piece := number, tag := e.tag }] } })) ∧
    (∀ cause : SpoilCause,
      (s.clock.invalid = true ∧ cause = .clock) ∨
        (s.clock.invalid = false ∧ p.sampled ≠ some s.clock.date ∧ cause = .datePassed) →
      exec (.downstreamLeadEdge .print) s = .next (State.settle
        { s with
          io := io,
          track := { s.track with
            printExpected := expected,
            records := onTag e.tag (fun q => { q with reason := some (.spoiled cause) })
              s.track.records },
          funds := { s.funds with
            queue := s.funds.queue ++ [.spoiled e.tag (some number) cause p.facts] } })) ∧
    (s.clock.invalid = false → p.sampled = some s.clock.date → s.print.headReady = false →
      (∀ x ∈ s.print.printing, x.tag ≠ e.tag) →
      ∃ u : State, exec (.downstreamLeadEdge .print) s = .next u.settle ∧
        ((u.track.find e.tag).bind Piece.reason = some (.spoiled .notReady)) ∧
        ((u.track.find e.tag).bind Piece.imprint = some i) ∧
        u.funds.queue.take (s.funds.queue.length + 1) =
          s.funds.queue ++ [.spoiled e.tag (some number) .notReady p.facts] ∧
        u.print.headFault = true ∧ u.print.headReady = false ∧ u.status.holds 9 = true ∧
        (s.print.headFault = false → u.pacing.lane = .draining ∧ u.pacing.drainHead = true) ∧
        (s.print.headFault = true → u.pacing = s.pacing)))

/-- The feed gate opens exactly when every admission condition holds; otherwise the command changes nothing. A
feed miss closes an OPEN gate once the belt has passed the opening count plus 4,000, with no grace; the
grace and the divert hold end at their counts. The divert gate is in its divert position exactly while a divert hold is
in force. The throttle factor of the gate's spacing is the largest of the console
factor, the credit factor while an ask is open and the heat factor while it is active, and so the console factor in
QUIET (the model's reading, log 36). -/
def Obligations.GateGraceAndHoldFollowConditions : Prop :=
  (∀ s : State, s.diverting = true ↔ s.track.divertHold ≠ none) ∧
  (∀ s : State,
    (s.pacing.settings = none → s.throttleFactor = s.pacing.consoleFactor) ∧
    ∀ g, s.pacing.settings = some g →
      let bounds (n : Nat) : Prop := s.pacing.consoleFactor ≤ n ∧
        (s.credit.ask ≠ none → g.creditFactor ≤ n) ∧ (s.pacing.heatActive = true → g.heatFactor ≤ n)
      bounds s.throttleFactor ∧ ∀ n, 1 ≤ n → bounds n → s.throttleFactor ≤ n) ∧
  (∀ (s : State) (g : Settings), s.powered = true → s.pacing.settings = some g →
    exec .feedGateOpen s = .next
      (if s.track.gateOpen = false ∧ s.pacing.lane = .running ∧ s.track.records.length < 8 ∧
          (∀ c, s.track.lastAdmission = some c →
            reached s.io.encoder (c + BitVec.ofNat 32 (g.geometry.gap * s.throttleFactor)) = true) ∧
          g.feedFloor ≤ s.funds.store.available - s.funds.reserved ∧ s.rate.ratesBehind = false ∧
          s.clock.invalid = false ∧ s.clock.disagree = false ∧
          s.funds.queue.length + s.track.records.length < 16 ∧ s.funds.storeFault = false ∧
          s.funds.store.nextJournal ≤ 4294967295 ∧ s.link.duplicate = false ∧
          (s.track.notes ≠ [] ∨ g.defaultNote.isSome = true)
        then { s with track := { s.track with
          gateOpen := true, openingCount := some s.io.encoder, noteWaited := !s.track.notes.isEmpty } }
        else s)) ∧
  (∀ s : State, s.powered = true →
    (∀ c, s.track.gateOpen = true → s.track.openingCount = some c →
      reached s.io.encoder (c + 4000#32 + 1) = true →
      exec .feedMiss s = .next
        { s with track := { s.track with
          gateOpen := false, grace := none,
          feedMisses := if s.track.noteWaited then min 65535 (s.track.feedMisses + 1)
            else s.track.feedMisses } }) ∧
    (∀ c g, s.pacing.settings = some g → s.track.grace = some c →
      exec .graceEnd s = .next
        (if reached s.io.encoder (c + BitVec.ofNat 32 g.geometry.tolerance + 1)
          then { s with track := { s.track with grace := none } } else s)) ∧
    (∀ c, s.track.divertHold = some (.untilCount c) →
      exec .divertHoldEnd s = .next
        (if reached s.io.encoder c then { s with track := { s.track with divertHold := none } } else s)))

/-- A note on a high ready line joins the tail of the note queue, and wakes a QUIET lane; on a low one it is
dropped with NOTE OVERRUN; one of more than four services is disregarded. The reader ready line is high while the note
queue holds fewer than four notes in READY, RUNNING, DRAINING and QUIET, and low otherwise. The bytes of a note on the note line; every
other message there is disregarded, as R175 says of one of more than four services and the model of any other
(log 49). -/
def Obligations.NoteJoinsQueueOrOverruns : Prop :=
  (let bytes (classCode zone : Nat) (services : List Nat) : List Byte :=
      be 1 1 ++ be 1 classCode ++ be 1 zone ++ be 1 services.length ++ (services.map (be 1)).flatten;
    (∀ (classCode zone : Nat) (services : List Nat), classCode < 256 → zone < 256 →
      (∀ v ∈ services, v < 256) → services.length ≤ 4 →
      notePort (bytes classCode zone services) = some (.noteArrival classCode zone services)) ∧
    ∀ message, (∀ classCode zone services, services.length ≤ 4 → message ≠ bytes classCode zone services) →
      notePort message = none) ∧
  (∀ s : State, s.readerReady = true ↔ s.track.notes.length < 4 ∧
    (s.pacing.lane = .ready ∨ s.pacing.lane = .running ∨ s.pacing.lane = .draining ∨
      s.pacing.lane = .quiet)) ∧
  ∀ (s : State) (classCode zone : Nat) (services : List Nat), s.powered = true →
    let note : Note := { classCode := classCode, zone := zone, services := services, isDefault := false }
    (4 < services.length → exec (.noteArrival classCode zone services) s = .next s) ∧
    (services.length ≤ 4 →
      s.track.notes.length < 4 →
      s.pacing.lane = .ready ∨ s.pacing.lane = .running ∨ s.pacing.lane = .draining →
      exec (.noteArrival classCode zone services) s = .next (State.settle
        { s with track := { s.track with notes := s.track.notes ++ [note] } })) ∧
    (services.length ≤ 4 → s.track.notes.length < 4 → s.pacing.lane = .quiet →
      ∃ u : State, exec (.noteArrival classCode zone services) s = .next u.settle ∧
        u.track.notes = s.track.notes ++ [note] ∧ u.pacing.lane = .running ∧
        (s.link.sending .wake = false ∨ s.link.full .wake = true → u.link.full .wake = true)) ∧
    (services.length ≤ 4 →
      4 ≤ s.track.notes.length ∨ s.pacing.lane = .offLine ∨ s.pacing.lane = .stopped →
      exec (.noteArrival classCode zone services) s = .next (s.raise .noteOverrun))

/-- The judgement at the decision point, in the order of its tests: the reason of a divert, or none for
ACCEPTED (R18). -/
def Sys2Proof.Machine.decisionOf (s : State) (p : Piece) : Option DivertReason :=
  if s.print.headFault then some .headFault
  else if s.pacing.lane = .draining ∧ s.pacing.drainScale = true then some .drain
  else if p.length = none ∨ p.width = none ∨ p.thickness = none then some .noDimensions
  else if p.state = .entering ∨ p.state = .measuring ∨ p.state = .readyToRate ∨ p.state = .rating then
    some .notRated
  else if p.state = .ratedUnfunded then some .noFunds
  else if s.clock.invalid then some .clock
  else if p.sampled ≠ some s.clock.date then some .datePassed
  else none

/-- The decision event of a record accepts it, or diverts it with the first reason that applies: it leaves
the queue and the expectation lists, a divert hold is placed, the diverted counter rises, its tag leaves the
engine, its reservation is released and a DIVERTED entry offered, and its departure is reported to rate
memory. In the weigh unit its platform entry stays, closed, and its tag leaves the bar queue. A departure that empties the
queue ends the HEAD FAULT condition with the head READY and ends a drain, STOPPED with the head mark and READY
without. That a HOLD of the station's own still waiting stays in its slot where the drain's end ends an objection window
(logs 22, 58), that the RUN MARK claim of a lane entering READY stands in the place of one that waits (log 59), and that
it is claimed before the JOURNAL APPEND of the DIVERTED entry (log 41), are the model's choices. -/
def Obligations.DecisionAcceptsOrDiverts : Prop :=
  ∀ (s : State) (g : Settings) (p : Piece) (tag : Nat), s.powered = true → s.pacing.settings = some g →
    s.track.find tag = some p → p.marks.decision = false →
    reached s.io.encoder (p.lead + BitVec.ofNat 32 g.geometry.decision) = true →
    (p.state.unaccepted = true → decisionOf s p = none →
      exec (.decisionEvent tag) s = .next (State.settle
        { s with track := { s.track with
          records := onTag tag (fun q =>
            { q with state := .accepted, marks := { q.marks with decision := true } })
            s.track.records } })) ∧
    ∀ reason : DivertReason,
      (p.state = .failed ∧ p.reason = some (.divert reason)) ∨
        (p.state.unaccepted = true ∧ decisionOf s p = some reason) →
      ∃ u v : State, exec (.decisionEvent tag) s = .next u.settle ∧ DrainFollows v u ∧
        v.track.records.map Piece.tag = (s.track.others tag).map Piece.tag ∧
        v.track.printExpected = s.track.printExpected.filter (fun e => e.tag != tag) ∧
        v.track.exitExpected = s.track.exitExpected.filter (fun e => e.tag != tag) ∧
        v.track.divertHold = some
          (match p.trail with
            | some t => .untilCount (t + BitVec.ofNat 32 g.geometry.decision)
            | none => .onTrail tag) ∧
        v.track.diverted = min 65535 (s.track.diverted + 1) ∧ v.track.notes = s.track.notes ∧
        v.funds.queue = s.funds.queue ++ [.diverted tag reason p.facts] ∧
        v.funds.store = s.funds.store ∧ tag ∉ v.engine.queue ∧
        (∀ r, v.engine.rating = some r → r.tag ≠ tag) ∧
        ((∀ x ∈ s.funds.unfunded, x = tag) →
          v.track.records = s.track.others tag ∧
            v.funds.reserved = s.funds.reserved - (if p.reserved then p.postage.getD 0 else 0)) ∧
        v.weigh = { s.weigh with
          platform := onEntry tag (fun e => { e with phase := .done }) s.weigh.platform,
          barQueue := s.weigh.barQueue.filter (fun x => x != tag) } ∧
        v.clock = s.clock ∧ v.pacing = s.pacing ∧ v.status = s.status ∧
        v.print = { s.print with headFault := headFaultAfter s (s.track.others tag) } ∧ DepartureReported s v p

/-! ### Weighing and measuring -/

/-- A platform-start event adds a WAITING entry for its record at the tail of the platform list; a newest
entry still WAITING is closed first, WEIGH FAIL with SHORT WINDOW, and one with an open window by its
judgement. -/
def Obligations.PlatformStartAddsEntry : Prop :=
  ∀ (s : State) (g : Settings) (p : Piece) (tag : Nat), s.powered = true → s.pacing.lane.moving = true →
    s.pacing.settings = some g → s.track.find tag = some p → p.marks.platformStart = false →
    reached s.io.encoder (p.lead + BitVec.ofNat 32 g.geometry.p0) = true →
    let added : PlatformEntry := { tag := tag, lead := p.lead, trail := p.trail, phase := .waiting }
    let marked := onTag tag (fun q => { q with marks := { q.marks with platformStart := true } })
    ((∀ e, s.weigh.platform.getLast? = some e → e.phase = .done) →
      exec (.platformStartEvent tag) s = .next (State.settle
        { s with
          track := { s.track with records := marked s.track.records },
          weigh := { s.weigh with platform := s.weigh.platform ++ [added] } })) ∧
    let closed (e : PlatformEntry) : Weigh := { s.weigh with
      platform := onEntry e.tag (fun x => { x with phase := .done }) s.weigh.platform ++ [added] }
    (∀ (e : PlatformEntry) (sub : WeighSub), s.weigh.platform.getLast? = some e →
      (e.phase = .waiting ∧ sub = .shortWindow) ∨
        (∃ w, e.phase = .weighing w ∧
          w.judge g.minSamples g.steadiness ((s.weigh.zero.getD []).sum) = .error sub) →
      exec (.platformStartEvent tag) s = .next (State.settle
        { s with
          track := { s.track with
            records := onTag e.tag (fun q =>
              if q.state.unaccepted then
                { q with state := .failed, reason := some (.divert (.weighFail sub)) }
              else q) (marked s.track.records) },
          weigh := closed e })) ∧
    ∀ (e : PlatformEntry) (w : Window) (grams : Nat), s.weigh.platform.getLast? = some e →
      e.phase = .weighing w →
      w.judge g.minSamples g.steadiness ((s.weigh.zero.getD []).sum) = .ok grams →
      ∃ u : State, exec (.platformStartEvent tag) s = .next u.settle ∧ u.weigh = closed e ∧
        (∀ q, s.track.find e.tag = some q → (u.track.find e.tag).bind Piece.weight = some grams) ∧
        u.funds = s.funds ∧ u.pacing = s.pacing ∧ u.status = s.status

/-- A closed window's judgement: too few samples, too great a spread, a net weight of 0 g or less, one above
20,000 g, or the net weight: the mean of the window less the zero offset, in tenths of a gram, divided by 10
and rounded up. The close hands the record its failure or its weight, and while an entry is on the platform
list no sample moves the zero offset. -/
def Obligations.WindowJudgedByRule : Prop :=
  (∀ (w : Window) (least greatest minSamples steadiness zeroSum : Nat), w.least = some least →
    w.greatest = some greatest → 1 ≤ w.count →
    let net : Int := -((-((16 * w.sum : Nat) : Int) + ((w.count * zeroSum : Nat) : Int)) /
      ((160 * w.count : Nat) : Int))
    w.judge minSamples steadiness zeroSum =
      if w.count < minSamples then .error .shortWindow
      else if steadiness < greatest - least then .error .unsteady
      else if net ≤ 0 then .error .zero
      else if 20000 < net then .error .overweight
      else .ok net.toNat) ∧
  (∀ (w : Window) (minSamples steadiness zeroSum : Nat), w.count < minSamples →
    w.judge minSamples steadiness zeroSum = .error .shortWindow) ∧
  (∀ (s : State) (g : Settings) (p : Piece) (e : PlatformEntry) (w : Window) (zero : List Nat),
    s.powered = true → s.pacing.settings = some g → s.track.find e.tag = some p →
    p.marks.platformEnd = false → p.state.unaccepted = true →
    reached s.io.encoder (p.lead + BitVec.ofNat 32 g.geometry.p1) = true →
    s.weigh.platform.find? (fun x => x.tag == e.tag) = some e → e.phase = .weighing w →
    s.weigh.zero = some zero →
    ∃ (u : State) (q : Piece), exec (.platformEndEvent e.tag) s = .next u.settle ∧
      u.track.find e.tag = some q ∧ u.weigh.zero = some zero ∧
      (∀ x ∈ u.weigh.platform, x.tag = e.tag → x.phase = .done) ∧
      match w.judge g.minSamples g.steadiness zero.sum with
      | .ok grams => q.weight = some grams
      | .error sub => q.state = .failed ∧ q.reason = some (.divert (.weighFail sub))) ∧
  ∀ (s : State) (v : Nat), s.powered = true → s.weigh.platform ≠ [] →
    ∃ t : State, exec (.scaleSample v) s = .next t ∧ t.weigh.zero = s.weigh.zero

/-- A window opens for a WAITING entry of the tag whose trail is past the platform start by the settle distance,
and for no other. An entry leaves the platform list once the belt has passed its trail count plus P1,
whatever its phase and the lane state. A platform-end event makes its record's entry DONE: WEIGH FAIL OVERLONG
when it is still WAITING, the window's failure, or the weight set on the record; an entry already DONE stays
as it is. -/
def Obligations.PlatformEntriesOpenCloseAndLeave : Prop :=
  (∀ (s : State) (g : Settings) (tag : Nat), s.powered = true → s.pacing.settings = some g →
    ∃ l : List PlatformEntry,
      exec (.windowOpening tag) s = .next { s with weigh := { s.weigh with platform := l } } ∧
      l.length = s.weigh.platform.length ∧
      ∀ (n : Nat) (e : PlatformEntry), s.weigh.platform[n]? = some e →
        l[n]? = some
          (if e.tag = tag ∧ e.phase = .waiting ∧
              (∃ t, e.trail = some t ∧
                reached s.io.encoder
                  (t + BitVec.ofNat 32 (g.geometry.p0 + g.geometry.settleDistance)) = true)
            then { e with phase := .weighing { sum := 0, least := none, greatest := none, count := 0 } }
            else e)) ∧
  (∀ (s : State) (g : Settings) (tag : Nat), s.powered = true → s.pacing.settings = some g →
    ∃ l : List PlatformEntry,
      exec (.platformLeaving tag) s = .next { s with weigh := { s.weigh with platform := l } } ∧
      l.Sublist s.weigh.platform ∧
      ∀ e, e ∈ l ↔ e ∈ s.weigh.platform ∧
        ¬ (e.tag = tag ∧ ∃ t, e.trail = some t ∧
          reached s.io.encoder (t + BitVec.ofNat 32 g.geometry.p1 + 1) = true)) ∧
  ∀ (s : State) (g : Settings) (p : Piece) (e : PlatformEntry) (tag : Nat), s.powered = true →
    s.pacing.settings = some g → s.track.find tag = some p → p.marks.platformEnd = false →
    reached s.io.encoder (p.lead + BitVec.ofNat 32 g.geometry.p1) = true →
    s.weigh.platform.find? (fun x => x.tag == tag) = some e →
    let done := onEntry tag (fun x => { x with phase := .done }) s.weigh.platform
    (e.phase = .done →
      exec (.platformEndEvent tag) s = .next (State.settle
        { s with track := { s.track with
          records := onTag tag (fun q => { q with marks := { q.marks with platformEnd := true } })
            s.track.records } })) ∧
    (∀ sub : WeighSub,
      (e.phase = .waiting ∧ sub = .overlong) ∨
        (∃ w, e.phase = .weighing w ∧
          w.judge g.minSamples g.steadiness ((s.weigh.zero.getD []).sum) = .error sub) →
      exec (.platformEndEvent tag) s = .next (State.settle
        { s with
          track := { s.track with
            records := onTag tag (fun q =>
              if q.state.unaccepted then
                { q with state := .failed, reason := some (.divert (.weighFail sub)),
                         marks := { q.marks with platformEnd := true } }
              else { q with marks := { q.marks with platformEnd := true } }) s.track.records },
          weigh := { s.weigh with platform := done } })) ∧
    ∀ (w : Window) (grams : Nat), e.phase = .weighing w →
      w.judge g.minSamples g.steadiness ((s.weigh.zero.getD []).sum) = .ok grams →
      ∃ u : State, exec (.platformEndEvent tag) s = .next u.settle ∧
        u.weigh = { s.weigh with platform := done } ∧
        u.track.find tag = some
          { p with
            weight := some grams, marks := { p.marks with platformEnd := true },
            state :=
              if p.state = .measuring ∧ p.note.isSome ∧ p.length.isSome ∧ p.width.isSome ∧
                  p.thickness.isSome then .readyToRate else p.state } ∧
        u.track.others tag = s.track.others tag ∧
        u.engine.queue = (if p.state = .measuring ∧ p.note.isSome ∧ p.length.isSome ∧ p.width.isSome ∧
            p.thickness.isSome then s.engine.queue ++ [tag] else s.engine.queue) ∧
        u.funds = s.funds ∧ u.pacing = s.pacing

/-- A scale sample: disregarded before a SETTLE and in OFF-LINE and STOPPED; filed to the open window; with
the platform empty taken into the zero history, SCALE ZERO following the difference of more than 200 tenths
between the zero offset and the reference zero; disregarded otherwise. -/
def Obligations.ScaleSampleFiledByPlatform : Prop :=
  ∀ (s : State) (v : Nat), s.powered = true →
    let still := s.pacing.lane = .offLine ∨ s.pacing.lane = .stopped
    let weighing (e : PlatformEntry) : Prop := ∃ w, e.phase = .weighing w
    (s.pacing.settings = none ∨ still → exec (.scaleSample v) s = .next s) ∧
    (∀ (g : Settings) (before later : List PlatformEntry) (e : PlatformEntry) (w : Window),
      s.pacing.settings = some g → ¬ still → s.weigh.platform = before ++ e :: later →
      e.phase = .weighing w → (∀ x ∈ before ++ later, ¬ weighing x) →
      let filed : Window :=
        { sum := w.sum + v, count := w.count + 1,
          least := some (match w.least with | some m => min v m | none => v),
          greatest := some (match w.greatest with | some m => max v m | none => v) }
      exec (.scaleSample v) s = .next
        { s with weigh := { s.weigh with
          platform := before ++ { e with phase := .weighing filed } :: later } }) ∧
    (∀ (g : Settings) (oldest : Nat) (rest : List Nat), s.pacing.settings = some g → ¬ still →
      s.weigh.platform = [] → s.weigh.zero = some (oldest :: rest) →
      let sum := (rest ++ [v]).sum
      let out : Prop := 16 * g.referenceZero + 3200 < sum ∨ sum + 3200 < 16 * g.referenceZero
      ∃ u : State, exec (.scaleSample v) s = .next u.settle ∧
        u.weigh.zero = some (rest ++ [v]) ∧ (u.weigh.scaleZero = true ↔ out) ∧
        u.weigh.platform = [] ∧ u.funds.store = s.funds.store ∧ u.track.records = s.track.records ∧
        (out → u.status.holds 12 = true) ∧ (¬ out → u.status = s.status ∧ u.pacing = s.pacing) ∧
        (out → s.pacing.lane = .running → s.track.records ≠ [] →
          u.pacing.lane = .draining ∧ u.pacing.drainScale = true ∧ u.pacing.drainHead = false) ∧
        (out → s.pacing.lane = .running → s.track.records = [] → u.pacing.lane = .ready) ∧
        (out → s.pacing.lane = .draining →
          u.pacing = { s.pacing with drainScale := true }) ∧
        (out → s.pacing.lane = .ready ∨ s.pacing.lane = .quiet → u.pacing = s.pacing)) ∧
    (∀ g : Settings, s.pacing.settings = some g → s.weigh.platform ≠ [] →
      (∀ e ∈ s.weigh.platform, ¬ weighing e) → exec (.scaleSample v) s = .next s)

/-- The bar event puts its record's tag at the tail of the bar queue; a reading or NO READ binds to the tag
at its head, a reading setting width and thickness unless one exceeds 6,000; with the queue empty it is
counted unbound; in a still lane it is disregarded. The bytes of a reading and of NO READ on the bar reading line; every
other message there is disregarded (log 49). -/
def Obligations.BarMessagesBindInOrder : Prop :=
  (let bytes (width thickness : Nat) : List Byte := be 1 0x01 ++ be 2 width ++ be 2 thickness;
    (∀ width thickness : Nat, width < 65536 → thickness < 65536 →
      barPort (bytes width thickness) = some (.barReading width thickness)) ∧
    barPort (be 1 0x02) = some .barNoRead ∧
    ∀ message, (∀ width thickness, message ≠ bytes width thickness) → message ≠ be 1 0x02 →
      barPort message = none) ∧
  ∀ s : State, s.powered = true →
    (∀ (g : Settings) (p : Piece) (tag : Nat), s.pacing.settings = some g →
      s.track.find tag = some p → p.marks.bar = false →
      reached s.io.encoder (p.lead + BitVec.ofNat 32 g.geometry.bar) = true →
      exec (.barEvent tag) s = .next
        { s with
          track := { s.track with
            records := onTag tag (fun q => { q with marks := { q.marks with bar := true } })
              s.track.records },
          weigh := { s.weigh with barQueue := s.weigh.barQueue ++ [tag] } }) ∧
    (∀ width thickness : Nat, s.pacing.lane.moving = false →
      exec (.barReading width thickness) s = .next s ∧ exec .barNoRead s = .next s) ∧
    (∀ width thickness : Nat, s.pacing.lane.moving = true → s.weigh.barQueue = [] →
      let counted := { s with weigh := { s.weigh with unboundBar := min 65535 (s.weigh.unboundBar + 1) } }
      exec (.barReading width thickness) s = .next counted ∧ exec .barNoRead s = .next counted) ∧
    ∀ (tag : Nat) (rest : List Nat) (p : Piece), s.pacing.lane.moving = true →
      s.weigh.barQueue = tag :: rest → s.track.find tag = some p →
      (∀ width thickness : Nat, width ≤ 6000 → thickness ≤ 6000 →
        ∃ u : State, exec (.barReading width thickness) s = .next u.settle ∧
          u.weigh = { s.weigh with barQueue := rest } ∧
          u.track.find tag = some
            { p with
              width := some width, thickness := some thickness,
              state :=
                if p.state = .measuring ∧ p.note.isSome ∧ p.weight.isSome ∧ p.length.isSome
                  then .readyToRate else p.state } ∧
          u.track.others tag = s.track.others tag ∧
          u.engine.queue = (if p.state = .measuring ∧ p.note.isSome ∧ p.weight.isSome ∧ p.length.isSome
            then s.engine.queue ++ [tag] else s.engine.queue) ∧ u.funds = s.funds) ∧
      (∀ width thickness : Nat, 6000 < width ∨ 6000 < thickness → p.complete = false →
        let unread := State.settle { s with weigh := { s.weigh with barQueue := rest } }
        exec (.barReading width thickness) s = .next unread ∧ exec .barNoRead s = .next unread)

/-! ### Rating -/

/-- The date clock's answer: CLOCK when the clock is invalid or the printed date would pass 2099-12-31;
otherwise the franking date and the date postdate days later are set on the record and the engine is
PRICING. During an update the answer is held back. -/
def Obligations.DateSampleSetsDates : Prop :=
  (∀ (s : State) (tag : Nat), s.powered = true → s.clock.updating = true →
    exec (.dateSampleAnswer tag) s = .next s) ∧
  ∀ (s : State) (r : Rating), s.powered = true → s.clock.updating = false → s.engine.rating = some r →
    r.stage = .sampling →
    (∀ printed : Date, s.clock.invalid = false → s.clock.date.plus s.clock.postdate = some printed →
      exec (.dateSampleAnswer r.tag) s = .next (State.settle
        { s with
          track := { s.track with
            records := onTag r.tag (fun q =>
              { q with sampled := some s.clock.date, printed := some printed }) s.track.records },
          engine := { s.engine with
            rating := some
              { r with stage := .choosing, sampled := some s.clock.date, printed := some printed } } })) ∧
    (s.clock.invalid = true ∨ s.clock.date.plus s.clock.postdate = none →
      exec (.dateSampleAnswer r.tag) s = .next (State.settle
        { s with
          track := { s.track with
            records := onTag r.tag (fun q =>
              if q.state.unaccepted then
                { q with state := .failed, reason := some (.divert .clock) } else q) s.track.records },
          engine := { s.engine with rating := none } }))

/-- The choice of a bank: the PENDING one when the printed date has reached its effective date, otherwise
the CURRENT one; it is named, its generation set on the record, and the piece priced from it or failed; with
no bank to choose, NO RATES. -/
def Obligations.BankChoicePricesOrFails : Prop :=
  ∀ (s : State) (r : Rating) (printed : Date), s.powered = true → s.engine.rating = some r →
    r.stage = .choosing → r.printed = some printed →
    let pendingDue (b : Bank) : Prop := b.state = .pending ∧ ∃ e, b.effective = some e ∧
      printed.before e = false
    let failed (reason : DivertReason) (q : Piece) : Piece :=
      if q.state.unaccepted then { q with state := .failed, reason := some (.divert reason) } else q
    (∀ (i : BankId) (b : Bank), s.rate.bank i = b →
      (pendingDue b ∧ ∀ j, (s.rate.bank j).state = .pending → j = i) ∨
        (b.state = .current ∧ (∀ j, ¬ pendingDue (s.rate.bank j)) ∧
          ∀ j, (s.rate.bank j).state = .current → j = i) →
      (∀ code sum postage : Nat, b.price r.facts = .ok (code, sum, postage) →
        exec .bankChoice s = .next (State.settle
          { s with
            rate := s.rate.mapBank i (fun b => { b with named := true }),
            track := { s.track with
              records := onTag r.tag (fun q => { q with generation := b.generation }) s.track.records },
            engine := { s.engine with
              rating := some
                { r with stage := .reserving, generation := b.generation, classFound := some code,
                         sum := sum, postage := postage } } })) ∧
      (∀ reason : DivertReason, b.price r.facts = .error reason →
        exec .bankChoice s = .next (State.settle
          { s with
            rate := s.rate.mapBank i (fun b => { b with named := true }),
            track := { s.track with
              records := onTag r.tag (fun q => failed reason { q with generation := b.generation })
                s.track.records },
            engine := { s.engine with rating := none } }))) ∧
    ((∀ j, (s.rate.bank j).state ≠ .current ∧ ¬ pendingDue (s.rate.bank j)) →
      exec .bankChoice s = .next (State.settle
        { s with
          track := { s.track with records := onTag r.tag (failed .noRates) s.track.records },
          engine := { s.engine with rating := none } }))

/-- The postage is the least multiple of the rounding unit at or above the running sum. Stages 3 to 6: NO CLASS,
then OVER LIMIT, then BAD ZONE, then the first break at or above the weight, OVER LIMIT with none, and its
price for the zone, NOT OFFERED where the tariff carries none. The running sum is the base price with every
surcharge's amount, and OVER MAXIMUM above 999,999. Stage 7: what a surcharge adds to a piece of
a class in its class set, with lengths in twentieths of a millimetre (log 6). -/
def Obligations.PricingStagesFollowTariff : Prop :=
  (∀ sum unit : Nat, 0 < unit →
    unit ∣ roundUp sum unit ∧ sum ≤ roundUp sum unit ∧
      ∀ m : Nat, unit ∣ m → sum ≤ m → roundUp sum unit ≤ m) ∧
  (∀ (b : Bank) (f : RatingFacts) (c : RateClass) (before later : List RateClass),
    ((∀ x ∈ b.classes, x.code ≠ f.classCode) → b.basePrice f = .error .noClass) ∧
    (b.classes = before ++ c :: later → c.code = f.classCode →
      (∀ x ∈ before, x.code ≠ f.classCode) →
      (c.maxWeight < f.weight ∨ 2 * c.maxLength < f.length ∨ c.maxWidth < f.width ∨
          c.maxThickness < f.thickness → b.basePrice f = .error .overLimit) ∧
      (f.weight ≤ c.maxWeight → f.length ≤ 2 * c.maxLength → f.width ≤ c.maxWidth →
        f.thickness ≤ c.maxThickness →
        (f.zone = 0 ∨ b.zones < f.zone → b.basePrice f = .error .badZone) ∧
        (1 ≤ f.zone → f.zone ≤ b.zones →
          ((∀ k ∈ c.breaks, k.limit < f.weight) → b.basePrice f = .error .overLimit) ∧
          ∀ (k : Break) (lighter heavier : List Break), c.breaks = lighter ++ k :: heavier →
            (∀ x ∈ lighter, x.limit < f.weight) → f.weight ≤ k.limit →
            (k.prices[f.zone - 1]? = some none → b.basePrice f = .error .notOffered) ∧
            ∀ price : Nat, k.prices[f.zone - 1]? = some (some price) →
              b.basePrice f = .ok (c, price))))) ∧
  (∀ (b : Bank) (f : RatingFacts),
    (∀ reason, b.basePrice f = .error reason → b.price f = .error reason) ∧
    ∀ (c : RateClass) (base : Nat), b.basePrice f = .ok (c, base) →
      let sum := base + (b.surcharges.map (fun x => x.amount c.code f)).sum
      b.price f =
        if 999999 < roundUp sum b.rounding then .error .overMaximum
        else .ok (c.code, sum, roundUp sum b.rounding)) ∧
  (∀ (x : Surcharge) (code : Nat) (f : RatingFacts),
    (∀ codes, x.classSet = some codes → code ∉ codes → x.amount code f = 0) ∧
    ((∀ codes, x.classSet = some codes → code ∈ codes) →
      (∀ v, x.condition = .service v →
        x.amount code f = if v ∈ f.services then x.fixed else 0) ∧
      (∀ low high, x.condition = .zoneRange low high →
        x.amount code f = if low ≤ f.zone ∧ f.zone ≤ high then x.fixed else 0) ∧
      ∀ t steps : Nat, 1 ≤ x.step →
        (x.condition = .thicknessOver t →
          (f.thickness ≤ t → x.amount code f = 0) ∧
          (t < f.thickness → (steps - 1) * x.step < f.thickness - t → f.thickness - t ≤ steps * x.step →
            x.amount code f = x.fixed + x.perStep * steps)) ∧
        (x.condition = .weightOver t →
          (f.weight ≤ t → x.amount code f = 0) ∧
          (t < f.weight → (steps - 1) * x.step < f.weight - t → f.weight - t ≤ steps * x.step →
            x.amount code f = x.fixed + x.perStep * steps)) ∧
        (x.condition = .lengthOver t →
          (f.length ≤ 2 * t → x.amount code f = 0) ∧
          (2 * t < f.length → (steps - 1) * (2 * x.step) < f.length - 2 * t →
            f.length - 2 * t ≤ steps * (2 * x.step) →
            x.amount code f = x.fixed + x.perStep * steps))))

/-- The asking test has been made on spendable funds, the unfunded list and the remit as `u` has them (R127, R128).
Where it does not hold CREDIT SHORT is not current and the ask stands as it was. Where it holds an ask opens, with its
CREDIT ASK and a HOLDINGS, unless one is open, the station is MUTE, a remit is in progress or a back-off wait runs. -/
def Sys2Proof.Machine.AskingTested (s u : State) : Prop :=
  let wanting (g : Settings) : Prop := s.pacing.settings = some g ∧ s.pacing.lane.moving = true ∧
    (u.funds.store.available - u.funds.reserved < g.lowMark ∨ u.funds.unfunded ≠ [])
  let free : Prop := s.credit.ask = none ∧ s.link.mute = false ∧ u.credit.remit = none ∧
    s.credit.backOff = none
  u.credit.backOff = s.credit.backOff ∧
  ((∀ g, ¬ wanting g) → u.credit.creditShort = false ∧ u.credit.ask = s.credit.ask) ∧
  ∀ g, wanting g →
    u.credit.creditShort = s.credit.creditShort ∧
    (free → u.credit.ask = some ⟨g.askAmount, g.askTimeout⟩ ∧ HoldingsAsked s u false ∧
      (s.link.sending .creditAsk = false → u.link.slots.creditAsk = .holding .creditAsk)) ∧
    (¬ free → u.credit.ask = s.credit.ask)

/-- Of the credit unit and the link only the own ask, CREDIT SHORT and the slots of HOLDINGS and CREDIT ASK may have
changed: what an asking test can change. -/
def Sys2Proof.Machine.OnlyAskChanged (s u : State) : Prop :=
  u.credit = { s.credit with ask := u.credit.ask, creditShort := u.credit.creditShort } ∧
  u.link = { s.link with slots := u.link.slots } ∧
  ∀ i, i ≠ .holdings → i ≠ .creditAsk → u.link.slots.get i = s.link.slots.get i

/-- The reservation: granted when the postage is within available less reserved, RATED UNFUNDED otherwise;
either way the engine's rating ends. The asking test is made on the spendable funds that the grant leaves, and the
lending test after it (the model's order, log 21); the report of a piece unfunded brings the asking test too. The
unfunded list then holds the tag and the tags it held, in the order of the track queue, which is that of lead counts. -/
def Obligations.ReservationGrantedWithinSpendable : Prop :=
  ∀ (s : State) (r : Rating) (p : Piece), s.powered = true → s.engine.rating = some r →
    r.stage = .reserving → s.track.find r.tag = some p → p.state = .rating →
    (r.postage ≤ s.funds.store.available - s.funds.reserved →
      ∃ u : State, exec .reservationRequest s = .next u.lendingTest.settle ∧
        AskingTested s u ∧ OnlyAskChanged s u ∧
        u.funds.reserved = s.funds.reserved + r.postage ∧ u.funds.store = s.funds.store ∧
        u.funds.unfunded = s.funds.unfunded ∧ u.funds.queue = s.funds.queue ∧
        u.track.records = onTag r.tag (fun q =>
          { q with postage := some r.postage, reserved := true, state := .rated }) s.track.records ∧
        u.engine = { s.engine with rating := none } ∧ u.clock = s.clock ∧ u.print = s.print) ∧
    (s.funds.store.available - s.funds.reserved < r.postage →
      ∃ u : State, exec .reservationRequest s = .next u.settle ∧
        AskingTested s u ∧ OnlyAskChanged s u ∧
        u.funds.reserved = s.funds.reserved ∧ u.funds.store = s.funds.store ∧
        u.funds.unfunded = (s.track.records.filter (fun q =>
          decide (q.tag = r.tag ∨ q.tag ∈ s.funds.unfunded))).map Piece.tag ∧
        r.tag ∈ u.funds.unfunded ∧
        u.track.records = onTag r.tag (fun q =>
          { q with postage := some r.postage, state := .ratedUnfunded }) s.track.records ∧
        u.engine = { s.engine with rating := none } ∧ u.clock = s.clock ∧ u.print = s.print)

/-! ### The print path -/

/-- The arm event of an ACCEPTED record with no outcome: passed unprinted with the first cause that applies,
its reservation released and an entry offered; otherwise ARMED, with its entry on the armed list and its
DEBIT claimed, granted at once when the store is free and the claim passes its tests. A claim refused passes the piece
unprinted, FULL with ASCENDING FULL and the stop, STORE without. Any other record only has the event
taken. The facts that the claim carries, and every journal entry of a record, are the record's own postage, weight, note,
generation and printed date. -/
def Obligations.ArmEventClaimsDebit : Prop :=
  (∀ p : Piece, p.facts.postage = p.postage ∧ p.facts.weight = p.weight ∧ p.facts.note = p.note ∧
    p.facts.generation = p.generation ∧ p.facts.printed = p.printed) ∧
  ∀ (s : State) (g : Settings) (p : Piece) (tag : Nat), s.powered = true → s.pacing.settings = some g →
    s.track.find tag = some p → p.marks.arm = false →
    reached s.io.encoder (p.lead + BitVec.ofNat 32 g.geometry.arm) = true →
    let armed := onTag tag (fun q => { q with marks := { q.marks with arm := true } }) s.track.records
    (p.state ≠ .accepted ∨ p.hasOutcome = true →
      exec (.armEvent tag) s = .next (State.settle { s with track := { s.track with records := armed } })) ∧
    (p.state = .accepted → p.reason = none →
      let cause : Option PassCause :=
        if s.print.headFault then some .headFault
        else if s.clock.invalid then some .clock
        else if p.sampled ≠ some s.clock.date then some .datePassed
        else if s.print.headReady = false then some .headNotReady
        else none
      (∀ c : PassCause, cause = some c → tag ∉ s.funds.unfunded →
        ∃ u : State, exec (.armEvent tag) s = .next u.settle ∧
          u.track.find tag = some
            { p with reserved := false, reason := some (.passedUnprinted c),
                     marks := { p.marks with arm := true } } ∧
          u.funds.queue = s.funds.queue ++ [.passedUnprinted tag c p.facts] ∧
          u.funds.store = s.funds.store ∧ u.print = s.print ∧ u.funds.arbiter = s.funds.arbiter ∧
          (s.funds.unfunded = [] →
            u.track.others tag = s.track.others tag ∧
              u.funds.reserved =
                s.funds.reserved - (if p.reserved then p.postage.getD 0 else 0))) ∧
      (cause = none →
        let claim : Claim := .debit tag (p.postage.getD 0) p.facts
        ∃ u : State, exec (.armEvent tag) s = .next u.settle ∧
          u.track.find tag = some { p with state := .armed, marks := { p.marks with arm := true } } ∧
          u.track.others tag = s.track.others tag ∧
          u.print = { s.print with
            armed := s.print.armed ++
              [{ tag := tag, postage := p.postage.getD 0, facts := p.facts, printEvent := none,
                 provisional := none }] } ∧
          u.funds.reserved = s.funds.reserved ∧ u.funds.store = s.funds.store ∧
          (s.funds.arbiter.idle = true → s.funds.storeFault = false →
            s.funds.store.ascending + p.postage.getD 0 ≤ 999999999999 →
            s.funds.store.pieceCount < 4294967295 → s.funds.store.nextJournal ≤ 4294967295 →
            u.funds.arbiter = { s.funds.arbiter with writing := some claim }) ∧
          (s.funds.arbiter.idle = false →
            u.funds.arbiter = { s.funds.arbiter with print := s.funds.arbiter.print ++ [claim] })) ∧
      (cause = none → s.funds.arbiter.idle = true →
        let full : Prop := 999999999999 < s.funds.store.ascending + p.postage.getD 0 ∨
          4294967295 ≤ s.funds.store.pieceCount ∨ 4294967295 < s.funds.store.nextJournal
        let entry (c : PassCause) : Entry := .passedUnprinted tag c p.facts
        (s.funds.storeFault = true →
          ∃ t : State, exec (.armEvent tag) s = .next t ∧ t.funds.store = s.funds.store ∧
            t.print.armed = s.print.armed.filter (fun x => x.tag != tag) ∧
            t.funds.queue = s.funds.queue ++ [entry .store] ∧
            ((t.track.find tag).bind Piece.reason = some (.passedUnprinted .store)) ∧
            t.pacing.lane = s.pacing.lane ∧ t.status = s.status) ∧
        (s.funds.storeFault = false → full →
          ∃ t : State, exec (.armEvent tag) s = .next t ∧ t.funds.store = s.funds.store ∧
            t.print.armed = s.print.armed.filter (fun x => x.tag != tag) ∧
            t.funds.queue.take (s.funds.queue.length + 1) = s.funds.queue ++ [entry .full] ∧
            t.status.holds 3 = true ∧
            (s.pacing.lane ≠ .offLine → s.pacing.lane ≠ .stopped →
              t.pacing.lane = .stopped ∧ t.track.records = []))))

/-- A number in `n` bytes with its absent form (R169). -/
def Sys2Proof.Machine.shown (n absent : Nat) (v : Option Nat) : List Byte :=
  be n (match v with | some x => x | none => absent)

/-- A date in 3 bytes, year less 2000, month and day, 000000h when absent (R169). -/
def Sys2Proof.Machine.shownDate : Option Date → List Byte
  | some d => be 1 (d.year - 2000) ++ be 1 d.month ++ be 1 d.day
  | none => be 3 0

/-- The end of the print window gives an ARMED record's entry without a provisional outcome SPOILED NO PRINT,
and does nothing to a record in any other state. HEAD READY and HEAD NOT READY set the head status; HEAD
READY with the track empty ends the HEAD FAULT condition. PRINT DONE takes a number on the printing list off
it and makes its record PRINTED, and is disregarded for any other number. The bytes of the head's messages; every other
message from the head is disregarded, as R175 says of an unknown code and the model of another length (log 49). The
bytes of IMPRINT and ABORT, and what an imprint's check code covers. -/
def Obligations.PrintWindowEndAndHeadMessages : Prop :=
  (let done (piece : Nat) : List Byte := be 1 0x13 ++ be 4 piece
    let fault (piece cause : Nat) : List Byte := be 1 0x14 ++ be 4 piece ++ be 1 cause
    headPort (be 1 0x11) = some .headReady ∧ headPort (be 1 0x12) = some .headNotReady ∧
    (∀ piece : Nat, piece < 2 ^ 32 → headPort (done piece) = some (.printDone piece)) ∧
    (∀ piece cause : Nat, piece < 2 ^ 32 → cause < 256 →
      headPort (fault piece cause) = some (.printFault piece cause)) ∧
    ∀ message, message ≠ be 1 0x11 → message ≠ be 1 0x12 → (∀ piece, message ≠ done piece) →
      (∀ piece cause, message ≠ fault piece cause) → headPort message = none) ∧
  (∀ i : Imprint,
    let covered : List Byte := be 2 i.lineId ++ be 1 i.station ++ be 4 i.piece ++ shownDate i.printed ++
      shown 3 0xFFFFFF i.postage ++ be 1 i.classCode ++ be 1 i.zone ++ shown 2 0 i.weight ++
      shown 2 0 i.generation
    covered.length = 19 ∧ (HeadMessage.imprint i).bytes = be 1 0x01 ++ covered ++ be 2 i.check.toNat ∧
      i.sealed = { i with check := checkBytes (BitVec.ofNat 16 i.station) covered }) ∧
  (∀ piece : Nat, (HeadMessage.abort piece).bytes = be 1 0x02 ++ be 4 piece) ∧
  (∀ (s : State) (g : Settings) (p : Piece) (tag : Nat), s.powered = true → s.pacing.settings = some g →
    s.track.find tag = some p → p.marks.windowEnd = false →
    reached s.io.encoder (p.lead + BitVec.ofNat 32 (g.geometry.print + g.geometry.window)) = true →
    let track : Track := { s.track with
      records := onTag tag (fun q => { q with marks := { q.marks with windowEnd := true } })
        s.track.records }
    (p.state = .armed →
      exec (.endOfPrintWindow tag) s = .next
        { s with
          track := track,
          print := { s.print with
            armed := s.print.armed.map (fun a =>
              if a.tag = tag ∧ a.provisional = none then { a with provisional := some .noPrint }
              else a) } }) ∧
    (p.state ≠ .armed → exec (.endOfPrintWindow tag) s = .next { s with track := track })) ∧
  (∀ s : State, s.powered = true →
    exec .headReady s = .next
      { s with print := { s.print with
        headReady := true,
        headFault := if s.track.records = [] then false else s.print.headFault } } ∧
    exec .headNotReady s = .next { s with print := { s.print with headReady := false } } ∧
    (∀ (piece : Nat) (e : Printing), s.print.printing.find? (fun x => x.piece == piece) = some e →
      exec (.printDone piece) s = .next
        { s with
          track := { s.track with
            records := onTag e.tag (fun q => { q with state := .printed }) s.track.records },
          print := { s.print with
            printing := s.print.printing.filter (fun x => x.piece != piece) } }) ∧
    (∀ piece cause : Nat, (∀ x ∈ s.print.printing, x.piece ≠ piece) →
      exec (.printDone piece) s = .next s ∧ exec (.printFault piece cause) s = .next s) ∧
    ∀ piece cause : Nat, cause = 0 ∨ 3 < cause → exec (.printFault piece cause) s = .next s)

/-- PRINT FAULT for a number on the printing list: its record is SPOILED with the head's cause, HEAD FAULT
is raised, the head is NOT READY, every other imprint out is aborted, no DEBITED record stays without an
outcome, each spoiled there having its imprint discarded, no armed entry without a provisional one, and a RUNNING lane
drains for the head; a drain in progress takes the head mark. -/
def Obligations.PrintFaultRaisesHeadFault : Prop :=
  ∀ (s : State) (piece code : Nat) (cause : HeadCause) (e : Printing) (p : Piece), s.powered = true →
    (code = 1 ∧ cause = .inkOut) ∨ (code = 2 ∧ cause = .headJam) ∨ (code = 3 ∧ cause = .overTemperature) →
    s.print.printing.find? (fun x => x.piece == piece) = some e → s.track.find e.tag = some p →
    (∀ x ∈ s.print.printing, x.piece ≠ piece → x.tag ≠ e.tag) →
    ∃ u : State, exec (.printFault piece code) s = .next u.settle ∧
      (u.track.find e.tag).bind Piece.reason = some (.spoiled (.printFault cause)) ∧
      u.funds.queue.take (s.funds.queue.length + 1) =
        s.funds.queue ++ [.spoiled e.tag p.pieceNumber (.printFault cause) p.facts] ∧
      u.print.printing = [] ∧
      u.print.headOut = s.print.headOut ++
        (s.print.printing.filter (fun x => x.piece != piece)).map (fun x => .abort x.piece) ∧
      u.print.headFault = true ∧ (s.print.headFault = false → u.print.headReady = false) ∧
      u.status.holds 9 = true ∧
      (s.status.holds 9 = false → StickyFault.headFault piece (.head cause) ∈ u.status.faults) ∧
      (∀ q ∈ u.track.records, q.state = .debited → q.reason ≠ none) ∧
      (∀ a ∈ u.print.armed, a.provisional ≠ none) ∧
      (∀ q ∈ u.track.records, q.state = .debited → (∀ x ∈ s.print.printing, x.tag ≠ q.tag) →
        ∀ o, s.track.find q.tag = some o → o.state = .debited → o.hasOutcome = false →
        q.reason = some (.spoiled .headFault) ∧ q.imprint = none) ∧
      (s.print.headFault = false → s.pacing.lane = .running →
        u.pacing.lane = .draining ∧ u.pacing.drainHead = true) ∧
      (s.print.headFault = false → s.pacing.lane = .draining →
        u.pacing = { s.pacing with drainHead := true }) ∧
      (s.print.headFault = true ∨ s.pacing.lane.moving = false → u.pacing = s.pacing) ∧
      u.funds.store = s.funds.store ∧ u.funds.reserved = s.funds.reserved

/-! ### The writes of the funds store -/

/-- The ring after an entry is placed: its newest 1,024 entries (R162). -/
def Sys2Proof.Machine.ringWith (st : Store) (e : Entry) : List Placed :=
  (if 1024 ≤ st.ring.length then st.ring.drop 1 else st.ring) ++ [{ number := st.nextJournal, entry := e }]

/-- The imprint of a piece, from the station, its settings and the facts of the claim (R99). -/
def Sys2Proof.Machine.IsImprint (s : State) (number : Nat) (facts : PieceFacts) (i : Imprint) : Prop :=
  i.lineId = (s.pacing.settings.map Settings.lineId).getD 0 ∧ i.station = s.link.station ∧
    i.piece = number ∧ i.printed = facts.printed ∧ i.postage = facts.postage ∧
    i.classCode = facts.classCode ∧ i.zone = facts.zone ∧ i.weight = facts.weight ∧
    i.generation = facts.generation ∧
    i.check = checkBytes (BitVec.ofNat 16 s.link.station) (i.bytes.take 19)

/-- What a write that places an entry in the ring does to JOURNAL WRAP (R162, R165): with the ring full and its oldest
number above the read marker, it is raised with that number unless it is held; otherwise it stands as it was. -/
def Sys2Proof.Machine.WrapJudged (s : State) (after : Status) : Prop :=
  let lost (n : Nat) : Prop := 1024 ≤ s.funds.store.ring.length ∧
    s.funds.store.ring.head?.map Placed.number = some n ∧ s.status.readMarker < n
  (∀ n, lost n → s.status.faults.Pairwise (fun a b => a.order < b.order) →
    after.fault? 14 = some ((s.status.fault? 14).getD (.journalWrap n))) ∧
  ((∀ n, ¬ lost n) → after.fault? 14 = s.status.fault? 14)

/-- The write has judged JOURNAL WRAP, and of the status block changed nothing else but the fault of order `also`. -/
def Sys2Proof.Machine.WrapOnly (s : State) (after : Status) (also : Nat) : Prop :=
  WrapJudged s after ∧ after.readMarker = s.status.readMarker ∧
    ∀ f : StickyFault, f.order ≠ 14 → f.order ≠ also → (f ∈ after.faults ↔ f ∈ s.status.faults)

/-- A DEBIT that completes: available falls by the postage, ascending rises by it, the piece count rises by 1
and numbers the piece, the last-commit record and the COMMITTED entry take it. Where the postage exceeds
available the manual states no result, and the statement only says available does not rise (log 10). The
answer of a completed DEBIT: the record takes its number and becomes DEBITED with its imprint, or is SPOILED
with the provisional outcome, or, gone from the track, gives a SPOILED STOPPED entry; the tally falls by the
postage. With the print event held, the release tests are made at once: the imprint is sent and the record
PRINTING, or the record is SPOILED by the first test that fails, its imprint still held (R93). JOURNAL WRAP is judged
as the COMMITTED entry is placed. With no print event held, no other fault is raised, a HOLDINGS is asked for when
available has changed, and the report of spendable funds brings the asking test, once and after the retry (the model's
order, log 21). -/
def Obligations.DebitWritesPostageAndNumbersPiece : Prop :=
  (∀ (s : State) (tag postage : Nat) (facts : PieceFacts), s.powered = true →
    s.funds.arbiter.writing = some (.debit tag postage facts) →
    let st := s.funds.store
    ∃ (u t : State) (available : Nat), t = u.settle ∧ exec (.debitComplete true) s = .next t ∧
      WrapJudged s u.status ∧ (postage ≤ st.available → available = st.available - postage) ∧
      available ≤ st.available ∧
      t.funds.store = { st with
        available := available, ascending := st.ascending + postage, pieceCount := st.pieceCount + 1,
        lastCommit :=
          some { piece := st.pieceCount + 1, postage := postage, journal := st.nextJournal },
        ring := ringWith st (.committed tag (st.pieceCount + 1) facts),
        nextJournal := st.nextJournal + 1 } ∧
      t.io = s.io ∧ t.clock = s.clock ∧ t.pacing.settings = s.pacing.settings) ∧
  (∀ (s : State) (tag postage : Nat) (facts : PieceFacts) (a : Armed), s.powered = true →
    s.funds.arbiter.writing = some (.debit tag postage facts) →
    s.print.armed.find? (fun x => x.tag == tag) = some a → tag ∉ s.funds.unfunded →
    let number := s.funds.store.pieceCount + 1
    ∃ u : State, exec (.debitComplete true) s = .next u.settle ∧
      (a.printEvent = none ∨ s.print.headReady = true →
        u.print.armed = s.print.armed.filter (fun x => x.tag != tag)) ∧
      (s.funds.unfunded = [] → u.funds.reserved = s.funds.reserved - postage) ∧
      (a.printEvent = none →
        WrapOnly s u.status 14 ∧ AskingTested s u ∧
          (1 ≤ postage → postage ≤ s.funds.store.available → s.pacing.lane ≠ .offLine →
            HoldingsAsked s u false)) ∧
      (∀ p, s.track.find tag = some p → a.provisional = none → a.printEvent = none →
        u.funds.queue = s.funds.queue ∧
        ∃ i : Imprint, IsImprint s number facts i ∧ u.track.find tag = some
            { p with pieceNumber := some number, reserved := false, state := .debited,
                     imprint := some i }) ∧
      (∀ p, s.track.find tag = some p → a.provisional = none → a.printEvent ≠ none →
        let settled : Piece := { p with pieceNumber := some number, reserved := false, imprint := none }
        let holding (i : Imprint) : Prop := IsImprint s number facts i
        (s.clock.invalid = false → p.sampled = some s.clock.date → s.print.headReady = true →
          u.funds.queue = s.funds.queue ∧
          u.track.find tag = some { settled with state := .printing } ∧
          u.print.printing = s.print.printing ++ [{ piece := number, tag := tag }] ∧
          ∃ i : Imprint, holding i ∧ u.print.headOut = s.print.headOut ++ [.imprint i]) ∧
        (∀ cause : SpoilCause,
          (s.clock.invalid = true ∧ cause = .clock) ∨
            (s.clock.invalid = false ∧ p.sampled ≠ some s.clock.date ∧ cause = .datePassed) →
          (∃ i, holding i ∧ u.track.find tag = some
              { settled with state := .debited, reason := some (.spoiled cause), imprint := some i }) ∧
            u.funds.queue = s.funds.queue ++ [.spoiled tag (some number) cause p.facts] ∧
            u.print.headOut = s.print.headOut ∧ u.print.printing = s.print.printing) ∧
        (s.clock.invalid = false → p.sampled = some s.clock.date → s.print.headReady = false →
          (∀ x ∈ s.print.printing, x.tag ≠ tag) →
          ((u.track.find tag).bind Piece.reason = some (.spoiled .notReady)) ∧
            (∃ i, holding i ∧ (u.track.find tag).bind Piece.imprint = some i) ∧
            u.funds.queue.take (s.funds.queue.length + 1) =
              s.funds.queue ++ [.spoiled tag (some number) .notReady p.facts] ∧
            u.print.headFault = true ∧ u.status.holds 9 = true ∧
            (s.print.headFault = false → s.pacing.lane = .running →
              u.pacing.lane = .draining ∧ u.pacing.drainHead = true) ∧
            (s.print.headFault = false → s.pacing.lane = .draining →
              u.pacing = { s.pacing with drainHead := true }))) ∧
      (∀ p cause, s.track.find tag = some p → a.provisional = some cause →
        u.track.find tag = some
            { p with pieceNumber := some number, reserved := false, state := .debited, imprint := none,
                     reason := some (.spoiled cause) } ∧
          u.funds.queue = s.funds.queue ++ [.spoiled tag (some number) cause p.facts]) ∧
      (s.track.find tag = none →
        u.funds.queue = s.funds.queue ++
          [.spoiled tag (some number) (a.provisional.getD .stopped) facts]))

/-- The postage of the record of a tag. -/
def Sys2Proof.Machine.postageOf (t : Track) (tag : Nat) : Nat := ((t.find tag).bind Piece.postage).getD 0

/-- The tags that a retry grants with `left` spendable (R69): oldest first, each that fits taking its postage from what
is left, one that does not fit passed over. -/
def Sys2Proof.Machine.grantedTags (t : Track) : Nat → List Nat → List Nat
  | _, [] => []
  | left, tag :: rest =>
    if (t.find tag).isSome = true ∧ postageOf t tag ≤ left then
      tag :: grantedTags t (left - postageOf t tag) rest
    else grantedTags t left rest

/-- The unfunded list has been retried with `left` spendable (R69): the tally rises by the postage granted, the tags
granted leave the list, and their records are RATED with the reservation held. -/
def Sys2Proof.Machine.RetryMade (s u : State) (left : Nat) : Prop :=
  let granted := grantedTags s.track left s.funds.unfunded
  u.funds.reserved = s.funds.reserved + (granted.map (postageOf s.track)).sum ∧
    u.funds.unfunded = granted.foldl List.erase s.funds.unfunded ∧
    u.track = { s.track with
      records := s.track.records.map (fun q =>
        if q.tag ∈ granted then
          { q with postage := some (postageOf s.track q.tag), reserved := true, state := .rated }
        else q) }

/-- A LOT IN that completes: available rises by the amount, the sender's settled entry becomes the passage
number TAKEN, a LOT IN entry is placed, the acknowledge is driven and the own ask's remaining falls. A
REFILL that completes: available and the refills total rise by the amount, the serial is held, a REFILL
entry is placed and the acknowledge driven; an open ask keeps its remaining. Either retries the unfunded list,
oldest first, against spendable funds as they then stand, judges JOURNAL WRAP as its entry is placed and raises no
other fault, asks for a HOLDINGS unless OFF-LINE, and brings the asking test, which a LOT IN makes with the ask as the
lot has left it. That the report which brings the asking test is made once, after the retry, so that the test reads the
tally and the unfunded list as the retry has left them, is the model's order (log 21): R69, R91 and R127 give none. -/
def Obligations.LotInAndRefillRaiseAvailable : Prop :=
  (∀ (s : State) (src passage amount : Nat), s.powered = true →
    s.funds.arbiter.writing = some (.lotIn src passage amount) →
    let st := s.funds.store
    ∃ (u : State) (settled : List (Nat × Settled)), exec (.lotInComplete true) s = .next u.settle ∧
      u.settle.funds.store = u.funds.store ∧
      u.funds.store = { st with
        available := st.available + amount, settled := settled,
        ring := ringWith st (.lotIn src passage amount), nextJournal := st.nextJournal + 1 } ∧
      u.funds.store.settledOf src = { number := passage, outcome := some .taken } ∧
      (∀ x, x ≠ src → u.funds.store.settledOf x = st.settledOf x) ∧
      u.link.ack = (if s.link.stuck ∨ s.link.mute then .released else .driven) ∧
      (∀ a : Ask, s.credit.ask = some a → amount < a.remaining →
        u.credit.ask = some { a with remaining := a.remaining - amount }) ∧
      (∀ (a : Ask) (g : Settings), s.credit.ask = some a → a.remaining ≤ amount →
        s.pacing.settings = some g → s.funds.unfunded = [] →
        g.lowMark ≤ st.available + amount - s.funds.reserved → u.credit.ask = none) ∧
      WrapOnly s u.status 14 ∧ (s.pacing.lane ≠ .offLine → HoldingsAsked s u false) ∧
      AskingTested
        { s with credit := { s.credit with ask := s.credit.ask.bind (fun a =>
            if a.remaining ≤ amount then none else some { a with remaining := a.remaining - amount }) } } u ∧
      RetryMade s u (st.available + amount - s.funds.reserved)) ∧
  (∀ (s : State) (serial amount : Nat), s.powered = true →
    s.funds.arbiter.writing = some (.refill serial amount) →
    let st := s.funds.store
    ∃ u : State, exec (.refillComplete true) s = .next u.settle ∧
      u.settle.funds.store = u.funds.store ∧
      u.funds.store = { st with
        available := st.available + amount, refillsTotal := st.refillsTotal + amount,
        refillSerial := serial, ring := ringWith st (.refill serial amount),
        nextJournal := st.nextJournal + 1 } ∧
      u.link.ack = (if s.link.stuck ∨ s.link.mute then .released else .driven) ∧
      (∀ a : Ask, s.credit.ask = some a → u.credit.ask = some a) ∧
      WrapOnly s u.status 14 ∧ (s.pacing.lane ≠ .offLine → HoldingsAsked s u false) ∧ AskingTested s u ∧
      RetryMade s u (st.available + amount - s.funds.reserved))

/-- The next step's LOT PASS of a remit has been placed after a passage was resolved: in a passage slot that is empty,
or that holds a PASS QUERY, which is withdrawn; a query that is being sent keeps the slot, and the step waits
(log 42). -/
def Sys2Proof.Machine.NextStepPlaced (s u : State) : Prop :=
  (s.link.slots.passage.req = none ∨ (∃ dest n, s.link.slots.passage.req = some (.passQuery dest n)) →
    s.link.sending .passage = false → u.link.slots.passage = .holding (.lotPass .remit .waiting)) ∧
  (∀ dest n, s.link.slots.passage.req = some (.passQuery dest n) → s.link.sending .passage = true →
    u.link.slots.passage = { s.link.slots.passage with later := some none })

/-- What becomes of a remit in progress `r` as the LOT OUT END of the passage `p` completes (R139). After TAKEN the
remaining of a stated remit falls by the amount, and at 0 the remit is over; otherwise, and always for ALL, the next
step's LOT PASS is placed. After NOT TAKEN the remit is over with REMIT INCOMPLETE, with what the remaining was, for ALL
what is then available. A passage of purpose ASK that stood in its way lets it go on (the model's choice, log 18). -/
def Sys2Proof.Machine.RemitFollows (s u : State) (p : Passage) (outcome : PassOutcome) (r : Remit) : Prop :=
  let goesOn (remaining : Option Nat) : Prop :=
    u.credit.remit = some { r with remaining := remaining } ∧ NextStepPlaced s u ∧
      u.status.fault? 16 = s.status.fault? 16
  (p.purpose = .ask → goesOn r.remaining) ∧
  (p.purpose = .remit → outcome = .taken →
    (r.remaining = none → goesOn none) ∧
    ∀ m, r.remaining = some m →
      (p.amount < m → goesOn (some (m - p.amount))) ∧
      (m ≤ p.amount → u.credit.remit = none ∧ u.status.fault? 16 = s.status.fault? 16)) ∧
  (p.purpose = .remit → outcome = .notTaken →
    u.credit.remit = none ∧
    (s.status.faults.Pairwise (fun a b => a.order < b.order) →
      u.status.fault? 16 = some ((s.status.fault? 16).getD (.remitIncomplete r.dest
        (match r.remaining with
          | some m => m
          | none => s.funds.store.available + p.amount)))))

/-- A LOT OUT START that completes moves the amount from available to the outbound passage with the next
passage number, and the begun LOT PASS stands in the passage slot; a LOT OUT END clears the passage, TAKEN
with a LOT OUT entry, NOT TAKEN with the amount back in available and a LOT RETURNED entry, and ends the
query state. That the begun LOT PASS stands there whatever the slot held meanwhile is the model's choice
(log 18). A LOT OUT START raises no fault. A LOT OUT END judges JOURNAL WRAP as its entry is placed and raises no other
fault but a remit's; a remit in progress goes on or is over; funds returned are retried on the unfunded list; a HOLDINGS
is asked for, and the asking test is made with the remit as it then stands, after the retry (the model's order,
logs 21 and 55). -/
def Obligations.PassageBeginsAndEndsInStore : Prop :=
  ∀ s : State, s.powered = true →
    let st := s.funds.store
    (∀ (dest amount : Nat) (purpose : Purpose),
      s.funds.arbiter.writing = some (.lotOutStart dest amount purpose) →
      ∃ u : State, exec (.lotOutStartComplete true) s = .next u.settle ∧
        u.settle.funds.store = u.funds.store ∧
        u.funds.store = { st with
          available := st.available - amount,
          outbound := some { number := st.nextPassage, dest := dest, amount := amount, purpose := purpose },
          nextPassage := st.nextPassage + 1 } ∧
        u.status = s.status ∧ AskingTested s u ∧ (s.pacing.lane ≠ .offLine → HoldingsAsked s u false) ∧
        (s.link.mute = false →
          u.link.slots.passage.req = some (.lotPass purpose (.begun dest st.nextPassage amount)))) ∧
    ∀ (passage : Nat) (outcome : PassOutcome) (p : Passage),
      s.funds.arbiter.writing = some (.lotOutEnd passage outcome) → st.outbound = some p →
      ∃ u : State, exec (.lotOutEndComplete true) s = .next u.settle ∧
        u.settle.funds.store = u.funds.store ∧
        (outcome = .taken →
          u.funds.store = { st with
            outbound := none, ring := ringWith st (.lotOut p.dest p.number p.amount p.purpose),
            nextJournal := st.nextJournal + 1 }) ∧
        (outcome = .notTaken →
          u.funds.store = { st with
            outbound := none, available := st.available + p.amount,
            ring := ringWith st (.lotReturned p.dest p.number p.amount p.purpose),
            nextJournal := st.nextJournal + 1 }) ∧
        u.credit.query = none ∧ u.credit.passUnresolved = false ∧ WrapOnly s u.status 16 ∧
        (s.credit.remit = none → u.credit.remit = none ∧ u.status.fault? 16 = s.status.fault? 16) ∧
        (∀ r, s.credit.remit = some r → RemitFollows s u p outcome r) ∧ AskingTested s u ∧
        (outcome = .taken →
          u.funds.reserved = s.funds.reserved ∧ u.funds.unfunded = s.funds.unfunded ∧ u.track = s.track) ∧
        (outcome = .notTaken →
          RetryMade s u (st.available + p.amount - s.funds.reserved) ∧
            (1 ≤ p.amount → s.pacing.lane ≠ .offLine → HoldingsAsked s u false))

/-- SETTLE NOT TAKEN sets the sender's settled entry, RUN MARK the run mark with the present piece count, and
JOURNAL APPEND places the entry at the head of the journal queue, which leaves it, and judges JOURNAL WRAP; nothing else
of the store changes, and no other fault is raised. -/
def Obligations.OtherWritesChangeTheirFieldOnly : Prop :=
  ∀ s : State, s.powered = true →
    let st := s.funds.store
    (∀ sender passage : Nat, s.funds.arbiter.writing = some (.settleNotTaken sender passage) →
      ∃ (u : State) (settled : List (Nat × Settled)),
        exec (.settleNotTakenComplete true) s = .next u.settle ∧
        u.settle.funds.store = u.funds.store ∧ u.funds.store = { st with settled := settled } ∧
        u.funds.store.settledOf sender = { number := passage, outcome := some .notTaken } ∧
        (∀ x, x ≠ sender → u.funds.store.settledOf x = st.settledOf x) ∧ u.credit.inHand = none ∧
        u.status = s.status ∧
        (s.link.sending .passAnswer = false →
          u.link.slots.passAnswer.req = some (.passAnswer sender passage .notTaken))) ∧
    (∀ set : Bool, s.funds.arbiter.writing = some (.runMark set) →
      ∃ u : State, exec (.runMarkComplete true) s = .next u.settle ∧ u.status = s.status ∧
        u.settle.funds.store = { st with runMark := if set then some st.pieceCount else none }) ∧
    ∀ (e : Entry) (rest : List Entry), s.funds.arbiter.writing = some .journalAppend →
      s.funds.queue = e :: rest →
      ∃ u : State, exec (.journalAppendComplete true) s = .next u.settle ∧
        u.settle.funds.store = u.funds.store ∧ u.funds.queue = rest ∧ WrapOnly s u.status 14 ∧
        u.funds.store = { st with ring := ringWith st e, nextJournal := st.nextJournal + 1 }

/-- The completion of a claim's write. -/
def Sys2Proof.Machine.completionOf (readBack : Bool) : Claim → Instr
  | .lotIn .. => .lotInComplete readBack
  | .refill .. => .refillComplete readBack
  | .debit .. => .debitComplete readBack
  | .runMark _ => .runMarkComplete readBack
  | .lotOutStart .. => .lotOutStartComplete readBack
  | .lotOutEnd .. => .lotOutEndComplete readBack
  | .settleNotTaken .. => .settleNotTakenComplete readBack
  | .journalAppend => .journalAppendComplete readBack

/-- A write whose read-back differs is undone: the store stands as before, STORE FAULT is raised and current,
no write is in progress, and a RUNNING lane drains. The claim is answered refused: a DEBIT's piece is passed
unprinted STORE, a REFILL is refused STORE, and a LOT IN or a REFILL is not acknowledged; the LOT PASS of a LOT OUT START
is withdrawn and a remit is over with REMIT INCOMPLETE; the passage of a LOT OUT END stays and its query timer does not
run; a SETTLE NOT TAKEN places no PASS ANSWER. That the fault and its
drain come before the answer is the model's choice (log 40). -/
def Obligations.FailedReadBackUndoesWrite : Prop :=
  ∀ (c : Claim) (s : State), s.powered = true → s.funds.arbiter.writing = some c →
    ∃ u : State, exec (completionOf false c) s = .next u.settle ∧
      u.settle.funds.store = s.funds.store ∧ u.funds.store = s.funds.store ∧
      u.funds.storeFault = true ∧ u.status.holds 1 = true ∧ u.funds.arbiter.writing = none ∧
      u.canTake = false ∧
      (s.pacing.lane = .running → u.pacing.lane = if s.track.records = [] then .ready else .draining) ∧
      (∀ tag postage facts, c = .debit tag postage facts →
        u.print.armed = s.print.armed.filter (fun x => x.tag != tag) ∧
          (∀ p, s.track.find tag = some p →
            u.funds.queue = s.funds.queue ++ [.passedUnprinted tag .store p.facts] ∧
              ((u.track.find tag).bind Piece.reason = some (.passedUnprinted .store))) ∧
          (s.track.find tag = none →
            u.funds.queue = s.funds.queue ++ [.passedUnprinted tag .store facts])) ∧
      (∀ serial amount, c = .refill serial amount →
        StickyFault.refillRefused serial .store ∈ u.status.faults ∧ u.link.ack = .released) ∧
      (∀ src passage amount, c = .lotIn src passage amount → u.link.ack = .released) ∧
      (∀ dest amount purpose, c = .lotOutStart dest amount purpose →
        (∀ p, s.link.slots.passage.req = some (.lotPass p .claimed) → s.link.sending .passage = false →
          u.link.slots.passage = .empty) ∧
        (purpose = .ask → u.credit.remit = s.credit.remit) ∧
        (purpose = .remit → u.credit.remit = none ∧ (s.credit.remit ≠ none → u.status.holds 16 = true))) ∧
      (∀ passage outcome p, c = .lotOutEnd passage outcome → s.funds.store.outbound = some p →
        u.funds.store.outbound = some p ∧
          u.credit.query = some
            { timer := none, count := match s.credit.query with | some q => q.count | none => 0 }) ∧
      (∀ sender passage, c = .settleNotTaken sender passage →
        u.credit.inHand = none ∧ u.link.slots.passAnswer = s.link.slots.passAnswer)

/-- The answer refused, with reason `r`, to a claim of the credit unit that stood first (R118, R131, R135, R136, R139);
`s` is the state with the claim taken off. A LOT OUT START: its LOT PASS is withdrawn, a remit of that purpose is over
with REMIT INCOMPLETE and brings the asking test, and the lending test follows, in the model's order (log 52). A LOT OUT
END of a passage still present: the query timer is started if it is not running. A SETTLE NOT TAKEN: refused STALE, the
query in hand is judged again against the settled entry, the model's reading where R87 says that no answer is sent
(log 56); refused STORE, no answer is sent. -/
def Sys2Proof.Machine.CreditRefused (s u : State) (c : Claim) (r : Refused) : Prop :=
  let withdrawn : State :=
    match s.link.slots.passage.req with
    | some (.lotPass _ .claimed) =>
      { s with link := { s.link with slots := { s.link.slots with passage := .empty } } }
    | _ => s
  (∀ dest amount purpose, c = .lotOutStart dest amount purpose → s.link.sending .passage = false →
    (purpose = .ask ∨ s.credit.remit = none → u = withdrawn.lendingTest) ∧
    ∀ m, purpose = .remit → s.credit.remit = some m →
      ∃ v : State, u = v.lendingTest ∧ v.credit.remit = none ∧ AskingTested withdrawn v ∧
        v.credit = { s.credit with
          remit := none, ask := v.credit.ask, creditShort := v.credit.creditShort } ∧
        v.link = { s.link with slots := v.link.slots } ∧
        (∀ i, i ≠ .holdings → i ≠ .creditAsk → v.link.slots.get i = withdrawn.link.slots.get i) ∧
        (let left : Nat := match m.remaining with | some n => n | none => s.funds.store.available;
          v = { s with
            credit := v.credit, link := v.link, status := s.status.raise (.remitIncomplete m.dest left) })) ∧
  (∀ passage outcome, c = .lotOutEnd passage outcome →
    (s.funds.store.outbound = none → u = s) ∧
    (s.funds.store.outbound ≠ none →
      let query : Query := match s.credit.query with | some q => q | none => { timer := none, count := 0 }
      let running : Query :=
        if query.timer = none ∧ s.link.mute = false ∧ s.funds.storeFault = false
          then { query with timer := some 500 } else query
      u = { s with credit := { s.credit with query := some running } })) ∧
  ∀ sender passage, c = .settleNotTaken sender passage →
    let answered : State := { s with credit := { s.credit with inHand := none } }
    let e := s.funds.store.settledOf sender
    (r ≠ .stale → u = answered) ∧
    (r = .stale → s.credit.inHand = some { sender := sender, passage := passage } →
      (∀ o, passage = e.number → e.outcome = some o → s.link.sending .passAnswer = false →
        u = { answered with link := { s.link with slots := { s.link.slots with
          passAnswer := .holding (.passAnswer sender passage o) } } }) ∧
      (passage < e.number → u = { answered with status := s.status.raise (.queryStale sender passage) }))

/-- The tests at a grant, in order, for each kind of claim. With the store free, the next claim granted is the
link claim, then the oldest print claim, then the oldest claim of the credit unit, then a JOURNAL APPEND;
while a write is in progress nothing is granted. A claim of the credit unit refused at its grant is answered, and the
arbiter and the step go on from there. That the test of the closed journal comes last is the model's choice (log 9). -/
def Obligations.ArbiterTestsAndGrantsByClass : Prop :=
  (∀ s : State,
    let st := s.funds.store
    (∀ c, s.funds.storeFault = true → s.verdict c = .refused .store) ∧
    (s.funds.storeFault = false →
      (∀ tag postage facts,
        s.verdict (.debit tag postage facts) =
          if 999999999999 < st.ascending + postage ∨ 4294967295 ≤ st.pieceCount ∨
              4294967295 < st.nextJournal then .refused .full else .write) ∧
      (∀ src passage amount,
        s.verdict (.lotIn src passage amount) =
          if passage ≤ (st.settledOf src).number then .refused .stale
          else if 999999999 < st.available + st.outboundAmount + amount then .refused .capacity
          else if 4294967295 < st.nextJournal then .refused .full else .write) ∧
      (∀ serial amount,
        s.verdict (.refill serial amount) =
          if serial ≠ (st.refillSerial + 1) % 65536 then .refused .serial
          else if 999999999 < st.available + st.outboundAmount + amount ∨
              999999999999999 < st.refillsTotal + amount then .refused .capacity
          else if 4294967295 < st.nextJournal then .refused .full else .write) ∧
      (∀ dest amount purpose,
        s.verdict (.lotOutStart dest amount purpose) =
          if st.outbound ≠ none then .refused .busy
          else if 4294967295 < st.nextPassage then .refused .passagesSpent
          else if st.available - s.funds.reserved < amount then .refused .short
          else .write) ∧
      (∀ passage outcome,
        s.verdict (.lotOutEnd passage outcome) =
          if st.outbound.map Passage.number ≠ some passage then .refused .noPassage
          else if 4294967295 < st.nextJournal then .refused .full else .write) ∧
      (∀ sender passage,
        s.verdict (.settleNotTaken sender passage) =
          if passage ≤ (st.settledOf sender).number then .refused .stale else .write) ∧
      (∀ set, s.verdict (.runMark set) = if st.runMark.isSome = set then .done else .write) ∧
      s.verdict .journalAppend = if 4294967295 < st.nextJournal then .refused .full else .write)) ∧
  (∀ s : State,
    let a := s.funds.arbiter
    (∀ c, a.writing = some c → (s.pump).funds.arbiter.writing = some c ∧ (s.pump).track = s.track) ∧
    (a.writing = none →
      (∀ c, a.link = some c → s.verdict c = .write → (s.pump).funds.arbiter.writing = some c) ∧
      (∀ c rest, a.link = none → a.print = c :: rest → s.verdict c = .write →
        (s.pump).funds.arbiter.writing = some c ∧ (s.pump).funds.arbiter.print = rest) ∧
      (∀ c rest, a.link = none → a.print = [] → a.credit = c :: rest → s.verdict c = .write →
        (s.pump).funds.arbiter.writing = some c ∧ (s.pump).funds.arbiter.credit = rest) ∧
      (a.link = none → a.print = [] → a.credit = [] → s.funds.queue ≠ [] →
        s.verdict .journalAppend = .write → (s.pump).funds.arbiter.writing = some .journalAppend) ∧
      (∀ c rest r, a.link = none → a.print = [] → a.credit = c :: rest → s.verdict c = .refused r →
        s.funds.queue = [] ∨ a.append = true → s.link.sending .passage = false →
        (∀ sender passage, c = .settleNotTaken sender passage →
          s.credit.inHand = some { sender := sender, passage := passage }) →
        ∃ u : State, s.pump = u.pump ∧ s.settle = u.settle ∧
          CreditRefused { s with funds := { s.funds with arbiter := { a with credit := rest } } } u c r)))

/-- A waiting journal entry of rate memory or the date clock joins the queue when the queue can take it and
its offer was refused first; otherwise it goes on waiting. -/
def Obligations.WaitingEntriesJoinInOrder : Prop :=
  ∀ (s : State) (e : Entry), s.powered = true →
    let room : Bool := decide (s.funds.queue.length + s.track.records.length < 15) &&
      !s.funds.storeFault && decide (s.funds.store.nextJournal ≤ 4294967295)
    (s.rate.waitingSwitch = some e →
      (room = true → s.funds.waiters.head? = some .bankSwitch →
        exec .bankSwitchEntryJoin s = .next (State.settle
          { s with
            rate := { s.rate with waitingSwitch := none },
            funds := { s.funds with
              waiters := s.funds.waiters.drop 1, queue := s.funds.queue ++ [e] } })) ∧
      (room = false ∨ s.funds.waiters.head? ≠ some .bankSwitch →
        exec .bankSwitchEntryJoin s = .next s)) ∧
    (s.clock.waitingEntry = some e →
      (room = true → s.funds.waiters.head? = some .dateSet →
        exec .dateSetEntryJoin s = .next (State.settle
          { s with
            clock := { s.clock with waitingEntry := none },
            funds := { s.funds with
              waiters := s.funds.waiters.drop 1, queue := s.funds.queue ++ [e] } })) ∧
      (room = false ∨ s.funds.waiters.head? ≠ some .dateSet →
        exec .dateSetEntryJoin s = .next s))

/-! ### What follows a command -/

/-- What follows a command in the same step (the arbiter's grants, the engine's next tag, the gate, the idle
test) leaves the store, the lane interface, the settings, the clock, the zero history and the banks'
contents; with nothing to grant, nothing to rate, the gate closed and the station busy it changes nothing. With nothing
to grant: the idle engine takes the oldest tag with the facts of its record; an OPEN gate closes with a grace
distance when an admission condition other than spacing does not hold; the idle timer of an idle station starts, and
a station that is not idle stops it, withdraws its HUSH and asks for a HOLD while a window runs. -/
def Obligations.StepEndLeavesStoreClockAndSettings : Prop :=
  ∀ s : State,
    (s.settle.pending = s.pending ∧ s.settle.powered = s.powered ∧ s.settle.io = s.io ∧
      s.settle.funds.store = s.funds.store ∧ s.settle.funds.freeDraws = s.funds.freeDraws ∧
      s.settle.clock = s.clock ∧ s.settle.pacing.settings = s.pacing.settings ∧
      s.settle.pacing.consoleFactor = s.pacing.consoleFactor ∧ s.settle.weigh.zero = s.weigh.zero ∧
      s.settle.link.station = s.link.station ∧
      ∀ i, (s.settle.rate.bank i).rounding = (s.rate.bank i).rounding ∧
        (s.settle.rate.bank i).zones = (s.rate.bank i).zones ∧
        (s.settle.rate.bank i).classes = (s.rate.bank i).classes ∧
        (s.settle.rate.bank i).surcharges = (s.rate.bank i).surcharges) ∧
    (s.funds.arbiter.idle = true → s.funds.queue = [] →
      (∀ (tag : Nat) (rest : List Nat) (p : Piece) (n : Note), s.engine.rating = none →
        s.engine.queue = tag :: rest → s.track.find tag = some p → p.note = some n →
        s.settle.engine =
            { queue := rest,
              rating := some
                { tag := tag, stage := .sampling,
                  facts :=
                    { classCode := n.classCode, zone := n.zone, services := n.services,
                      weight := p.weight.getD 0, length := p.length.getD 0, width := p.width.getD 0,
                      thickness := p.thickness.getD 0 },
                  sampled := none, printed := none, generation := none, classFound := none, sum := 0,
                  postage := 0 } } ∧
          s.settle.track.records = onTag tag (fun q => { q with state := .rating }) s.track.records) ∧
      (s.engine.rating ≠ none ∨ s.engine.queue = [] →
        s.settle.engine = s.engine ∧ s.settle.track.records = s.track.records) ∧
      (let holds : Prop := ∃ g, s.pacing.settings = some g ∧ s.pacing.lane = .running ∧
          s.track.records.length < 8 ∧ g.feedFloor ≤ s.funds.store.available - s.funds.reserved ∧
          s.rate.ratesBehind = false ∧ s.clock.invalid = false ∧ s.clock.disagree = false ∧
          s.funds.storeFault = false ∧
          s.funds.store.nextJournal ≤ 4294967295 ∧ s.link.duplicate = false ∧
          (s.track.notes ≠ [] ∨ g.defaultNote.isSome = true);
        (s.track.gateOpen = true → ¬ holds →
          s.settle.track.gateOpen = false ∧ s.settle.track.grace = some s.io.encoder) ∧
        (s.track.gateOpen = false ∨ holds →
          s.settle.track.gateOpen = s.track.gateOpen ∧ s.settle.track.grace = s.track.grace)) ∧
      let idle : Prop := s.pacing.lane = .running ∧ s.track.records = [] ∧ s.track.notes = [] ∧
        s.pacing.button = false
      (∀ g, idle → s.pacing.settings = some g → s.pacing.idleTimer = none → s.pacing.window = none →
        s.link.full .hush = false → (∀ a, s.link.report = some a → a.slot ≠ .hush) →
        s.settle.pacing = { s.pacing with idleTimer := some g.idleSpan }) ∧
      (idle → s.pacing.idleTimer ≠ none ∨ s.pacing.window ≠ none ∨ s.link.full .hush = true →
        s.settle.pacing = s.pacing ∧ s.settle.link = s.link) ∧
      (¬ idle →
        s.settle.pacing = { s.pacing with
          idleTimer := none,
          window := s.pacing.window.map (fun w => { w with holdAsked := true }) } ∧
        (s.link.sending .hush = false → s.settle.link.full .hush = false) ∧
        (∀ w, s.pacing.window = some w → w.holdAsked = false → s.link.sending .hold = false →
          s.settle.link.slots.hold = .holding .hold) ∧
        ((∀ w, s.pacing.window = some w → w.holdAsked = true) →
          s.settle.link.slots.hold = s.link.slots.hold))) ∧
    (s.funds.arbiter.idle = true → s.funds.queue = [] →
      (s.engine.rating ≠ none ∨ s.engine.queue = []) → s.track.gateOpen = false →
      s.isIdle = false → s.pacing.idleTimer = none → s.link.full .hush = false →
      s.pacing.window = none → s.settle = s)

/-! ### Resets -/

/-- A power-up or a warm reset leaves the lane interface, the track and weigh units, the rating engine, the
print path, the pacing unit and the volatile parts of the other blocks at their reset values, with ABORT 0
sent to the head and the receive dispatch open. No frame is being sent or awaits its report, no acknowledge is driven, and
no claim waits; the arbiter is free but for the JOURNAL APPEND of a BANK SWITCH entry that start-up has offered. The
model's choices and readings in it: POWER UP at a powered part is a loss and a power-up (log 11); a power-up that KEPT the
date raises no CLOCK INVALID fault, also with the condition current (log 12); a warm reset loses the requests that an
update held back, and a write that read back wrong at it leaves no STORE FAULT (log 13); JOURNAL WRAP can be held after
start-up (log 63); the acknowledge field stands at none (log 23); and the ABORT stands in a list of what has been sent to
the head (log 24). -/
def Obligations.ResetsLeaveVolatileStateCleared : Prop :=
  ∀ (c : Instr) (x : StartInputs) (s : State),
    (∃ kept, c = .powerUp kept x) ∨ (s.powered = true ∧ ∃ readBack, c = .warmReset readBack x) →
    ∃ t : State, exec c s = .next t ∧ t.powered = true ∧
      t.io = { encoder := 0#32, infeed := ⟨none, none⟩, print := ⟨none, none⟩, exit := ⟨none, none⟩ } ∧
      t.track =
        { records := [], notes := [], gateOpen := false, openingCount := none, noteWaited := false,
          grace := none, lastAdmission := none, tagCounter := 0, printExpected := [],
          exitExpected := [], divertHold := none, feedMisses := 0, diverted := 0 } ∧
      t.readerReady = false ∧ t.pacing.lane.drive = false ∧ t.diverting = false ∧
      exec .feedGateOpen t = .next t ∧
      (∀ c', movesInterface c' = true → ∃ io, exec c' t = .next { t with io := io }) ∧
      t.weigh =
        { zero := none, platform := [], barQueue := [], scaleZero := false, unboundBar := 0 } ∧
      t.engine = { queue := [], rating := none } ∧ t.funds.reserved = 0 ∧ t.funds.unfunded = [] ∧
      t.print =
        { headReady := false, armed := [], printing := [], headFault := false, franked := 0,
          headOut := [.abort 0] } ∧
      t.pacing =
        { lane := .offLine, settings := none, drainScale := false, drainHead := false,
          holdTimer := none, heatTimer := none, heatActive := false, idleTimer := none,
          window := none, consoleFactor := 1, button := x.button, hot := x.hot } ∧
      t.link.station = x.strap ∧ (t.link.mute = true ↔ x.strap = 0 ∨ 14 < x.strap) ∧
      t.link.duplicate = false ∧ t.link.stuck = false ∧ t.link.dispatchOpen = true ∧
      t.link.attempt = none ∧ t.link.yieldUrgent = false ∧ t.link.yieldCredit = false ∧
      t.link.yieldRoutine = false ∧ t.link.checkErrors = 0 ∧
      (∀ i : SlotId, i ≠ .passage → t.link.full i = false) ∧
      t.credit.ask = none ∧ t.credit.backOff = none ∧ t.credit.mirror = [] ∧ t.credit.roster = [] ∧
      t.credit.inHand = none ∧ t.credit.remit = none ∧ t.credit.creditShort = false ∧
      t.credit.passUnresolved = false ∧
      t.link.report = none ∧ t.link.ack = .none ∧
      (t.funds.queue = [] →
        t.funds.arbiter = { writing := none, link := none, print := [], credit := [], append := false }) ∧
      (t.funds.queue ≠ [] →
        t.funds.arbiter =
          { writing := some .journalAppend, link := none, print := [], credit := [], append := false }) ∧
      t.funds.waiters = (if t.rate.waitingSwitch.isSome then [.bankSwitch] else []) ∧
      t.clock.held = [] ∧ t.clock.waitingEntry = none ∧
      t.clock.postdate = 0 ∧ t.clock.disagree = false ∧ t.clock.heardTurn = none ∧
      t.rate.highestHeard = none ∧ t.rate.ratesBehind = false ∧
      (∀ i, (t.rate.bank i).isLoading = false ∧ (t.rate.bank i).isRetiring = false ∧
        (t.rate.bank i).named = false) ∧
      t.status.readMarker = 0 ∧
      (∀ f ∈ t.status.faults, f.order = 1 ∨ f.order = 4 ∨ f.order = 10 ∨ f.order = 14) ∧
      (t.status.holds 10 = true ↔ c = .powerUp false x)

/-- The start-up processing of the funds store, from the store as it stands before it (R92): a record that fails its
check raises STORE FAULT and nothing is written; a run mark found set is cleared, with one UNCONFIRMED entry unless the
journal is closed, and POWER LOSS IN RUN is raised; with no mark the store stands as it was; an outbound passage is
queried where queries may be placed. What a write of step 2 that reads back wrong leaves is the model's choice
(log 30). An UNCONFIRMED entry that removes the oldest of a full ring raises JOURNAL WRAP, since the read marker stands
at 0 by then: so R165 says, and so the model does where the worked sequence of section 11.7 shows no JOURNAL WRAP
(log 63). -/
def Sys2Proof.Machine.StoreStarted (x : StartInputs) (before : Store) (t : State) : Prop :=
  let readable : Prop := x.checksPass = true ∧ (before.runMark = none ∨ x.writeGood = true)
  let lost (n : Nat) : Prop := x.checksPass = true ∧ x.writeGood = true ∧ before.runMark ≠ none ∧
    before.nextJournal ≤ 4294967295 ∧ 1024 ≤ before.ring.length ∧
    before.ring.head?.map Placed.number = some n ∧ 0 < n
  (∀ n, lost n → StickyFault.journalWrap n ∈ t.status.faults) ∧
  ((∀ n, ¬ lost n) → t.status.holds 14 = false) ∧
  (x.checksPass = false →
    t.funds.store = before ∧ t.funds.storeFault = true ∧ t.status.holds 1 = true ∧
      t.status.holds 4 = false ∧ t.credit.query = none ∧ t.link.full .passage = false) ∧
  (x.checksPass = true → before.runMark = none →
    t.funds.store = before ∧ t.funds.storeFault = false ∧ t.status.holds 1 = false ∧
      t.status.holds 4 = false) ∧
  (∀ mark, x.checksPass = true → before.runMark = some mark →
    t.status.holds 4 = true ∧
    (x.writeGood = true → t.funds.storeFault = false ∧ t.status.holds 1 = false ∧
      t.funds.store =
        if before.nextJournal ≤ 4294967295 then
          { before with
            runMark := none, nextJournal := before.nextJournal + 1,
            ring := ringWith before (.unconfirmed (before.lastCommit.map LastCommit.piece)
              (before.lastCommit.map LastCommit.postage) (before.lastCommit.map LastCommit.journal)
              (before.pieceCount - mark)) }
        else { before with runMark := none }) ∧
    (x.writeGood = false →
      t.funds.store = before ∧ t.funds.storeFault = true ∧ t.status.holds 1 = true)) ∧
  (x.checksPass = true → before.outbound = none →
    t.credit.query = none ∧ t.link.full .passage = false) ∧
  ∀ p, x.checksPass = true → before.outbound = some p →
    (readable → 1 ≤ x.strap → x.strap ≤ 14 →
      t.link.slots.passage = .holding (.passQuery p.dest p.number) ∧
        t.credit.query = some { timer := some 500, count := 0 }) ∧
    (¬ (readable ∧ 1 ≤ x.strap ∧ x.strap ≤ 14) →
      t.link.full .passage = false ∧ t.credit.query = some { timer := none, count := 0 })

/-- The bank that is not this one. -/
def Sys2Proof.Machine.otherBank : BankId → BankId
  | .a => .b
  | .b => .a

/-- The BANK SWITCH entry for bank `i` made CURRENT on a date: its generation, the generation replaced, the date
(R52, R163). -/
def Sys2Proof.Machine.switchEntry (s : State) (i : BankId) (date : Date) : Entry :=
  let old := s.rate.bank (otherBank i)
  .bankSwitch ((s.rate.bank i).generation.getD 0) (if old.state = .current then old.generation else none) date

/-- Rate memory after a reset (R56): the contents of both banks as they were, a LOADING or RETIRING bank FREE, and a
PENDING or CURRENT one as it was with its mark cleared, but for the switch to a PENDING bank whose day has come by the
valid clock. The switch offers its BANK SWITCH entry, which waits where the journal queue cannot take it. -/
def Sys2Proof.Machine.BanksStarted (s t : State) : Prop :=
  let comes (i : BankId) : Prop := (s.rate.bank i).state = .pending ∧
    ∃ e, (s.rate.bank i).effective = some e ∧ t.clock.invalid = false ∧ t.clock.date.before e = false
  (∀ i, (t.rate.bank i).rounding = (s.rate.bank i).rounding ∧ (t.rate.bank i).zones = (s.rate.bank i).zones ∧
    (t.rate.bank i).classes = (s.rate.bank i).classes ∧
    (t.rate.bank i).surcharges = (s.rate.bank i).surcharges) ∧
  (∀ i, (s.rate.bank i).isLoading = true ∨ (s.rate.bank i).isRetiring = true →
    (t.rate.bank i).state = .free ∧ (t.rate.bank i).generation = none) ∧
  ((∀ i, ¬ comes i) →
    t.rate.waitingSwitch = none ∧ t.funds.queue = [] ∧
    ∀ i, (s.rate.bank i).state = .pending ∨ (s.rate.bank i).state = .current →
      t.rate.bank i = { s.rate.bank i with named := false }) ∧
  ∀ i, comes i → (∀ j, (s.rate.bank j).state = .pending → j = i) →
    t.rate.bank i = { s.rate.bank i with state := .current, named := false } ∧
    ((s.rate.bank (otherBank i)).state = .current →
      (t.rate.bank (otherBank i)).state = .free ∧ (t.rate.bank (otherBank i)).generation = none) ∧
    (t.funds.storeFault = false ∧ t.funds.store.nextJournal ≤ 4294967295 →
      t.funds.queue = [switchEntry s i t.clock.date] ∧ t.rate.waitingSwitch = none) ∧
    (t.funds.storeFault = true ∨ 4294967295 < t.funds.store.nextJournal →
      t.funds.queue = [] ∧ t.rate.waitingSwitch = some (switchEntry s i t.clock.date))

/-- The start-up of the funds store, rate memory and the clock after either reset. POWER UP finds the store as the last
completed write left it; a latch of KEPT leaves date and time, LOST sets 2000-01-01 00:00:00 and CLOCK INVALID. A
WARM RESET lets a write in progress complete first, or be undone by a bad read-back (log 13), and leaves date, time,
latch, latch-reported mark, CLOCK INVALID and an update in progress as they are. A loss of power keeps the store, the
banks and the clock. That a part without power changes at no other command, that its volatile state goes at POWER LOSS,
and what POWER UP does at a powered part are the model's choice (log 11), and so is the end of an update at a latch of
LOST (log 54); that KEPT keeps CLOCK INVALID as it stood is its reading (log 12). An UNCONFIRMED entry placed in a full
ring raises JOURNAL WRAP, as R165 says; the worked sequence of section 11.7 shows none (log 63), and what a start-up write
that reads back wrong leaves is the model's choice (log 30). -/
def Obligations.StartUpAndPowerLossKeepStore : Prop :=
  ∀ (kept : Bool) (x : StartInputs) (s : State),
    let st := s.funds.store
    let restarted : Clock :=
      { s.clock with
        postdate := 0, disagree := false, heardTurn := none, held := [], waitingEntry := none }
    (∃ t : State, exec (.powerUp kept x) s = .next t ∧ StoreStarted x st t ∧ BanksStarted s t ∧
      t.clock =
        if kept then { restarted with latch := .kept, latchReported := false }
        else
          { restarted with
            latch := .lost, latchReported := false, date := ⟨2000, 1, 1⟩, time := ⟨0, 0, 0⟩,
            invalid := true, updating := false }) ∧
    (s.powered = true → ∀ (readBack : Bool) (before : Store),
      (s.funds.arbiter.writing = none ∨ readBack = false → before = st) →
      (∀ c t', s.funds.arbiter.writing = some c → readBack = true →
        exec (completionOf true c) s = .next t' → before = t'.funds.store) →
      ∃ t : State, exec (.warmReset readBack x) s = .next t ∧ StoreStarted x before t ∧
        BanksStarted s t ∧ t.clock = restarted) ∧
    (s.powered = true →
      ∃ t : State, exec .powerLoss s = .next t ∧ t.powered = false ∧ t.funds.store = st ∧
        t.rate.bankA = s.rate.bankA ∧ t.rate.bankB = s.rate.bankB ∧
        t.clock.date = s.clock.date ∧ t.clock.time = s.clock.time ∧
        t.clock.invalid = s.clock.invalid ∧ t.funds.arbiter.writing = none ∧
        t.track.records = [] ∧ t.funds.queue = []) ∧
    (s.powered = false → ∀ c, actsUnpowered c = false → exec c s = .next s)

/-! ### The tariff -/

/-- A console frame is taken: the dispatch is open, and an addressed one finds the station not MUTE. -/
def Sys2Proof.Machine.Takes (s : State) (addressed : Bool) : Prop :=
  s.link.dispatchOpen = true ∧ (addressed = true → s.link.mute = false)

/-- The acknowledge field after a frame: driven for an addressed frame taken, unless LINK STUCK is current. -/
def Sys2Proof.Machine.ackAfter (s : State) (addressed taken : Bool) : Ack :=
  if addressed then (if taken ∧ s.link.stuck = false ∧ s.link.mute = false then .driven else .released)
  else s.link.ack

/-- The state with that acknowledge and nothing else changed. -/
def Sys2Proof.Machine.acked (s : State) (addressed taken : Bool) : State :=
  { s with link := { s.link with ack := ackAfter s addressed taken } }

/-- A refused rate frame: LOAD FAILED with the reason, no bank changed, not acknowledged. -/
def Sys2Proof.Machine.LoadRefused (s t : State) (addressed : Bool) (reason : LoadReason) : Prop :=
  t.rate = s.rate ∧ StickyFault.loadFailed reason ∈ t.status.faults ∧
    t.link.ack = ackAfter s addressed false ∧ t.funds = s.funds ∧ t.track = s.track

/-- Bank `i` has been made CURRENT by one directory write: the bank CURRENT before is RETIRING if it is named and
FREE if it is not, any other stands as it was, and RATES BEHIND is evaluated afresh (R52, R55). -/
def Sys2Proof.Machine.BanksSwitched (s u : State) (i : BankId) : Prop :=
  let old := s.rate.bank (otherBank i)
  u.rate.bank i = { s.rate.bank i with state := .current } ∧
    u.rate.bank (otherBank i) =
      (if old.state = .current then
        if old.named then { old with state := .retiring }
        else { old with state := .free, generation := none, effective := none, named := false }
      else old) ∧
    u.rate.highestHeard = s.rate.highestHeard ∧
    (u.rate.ratesBehind = true ↔
      ∃ heard, s.rate.highestHeard = some heard ∧ (s.rate.bank i).generation.getD 0 < heard)

/-- The journal queue can take an entry of rate memory or the date clock with `n` more before it (R89). -/
def Sys2Proof.Machine.roomAfter (s : State) (n : Nat) : Bool :=
  decide (s.funds.queue.length + n + s.track.records.length < 15) && !s.funds.storeFault &&
    decide (s.funds.store.nextJournal ≤ 4294967295)

/-- The switch to bank `i` (R52): the directory write, and the BANK SWITCH entry in the journal queue or
waiting (log 25). -/
def Sys2Proof.Machine.SwitchMade (s u : State) (i : BankId) : Prop :=
  BanksSwitched s u i ∧
    (roomAfter s 0 = true → s.funds.waiters = [] →
      u.funds.queue = s.funds.queue ++ [switchEntry s i u.clock.date] ∧
        u.rate.waitingSwitch = s.rate.waitingSwitch) ∧
    (roomAfter s 0 = false ∨ s.funds.waiters ≠ [] →
      u.funds.queue = s.funds.queue ∧ u.rate.waitingSwitch = some (switchEntry s i u.clock.date) ∧
        Waiter.bankSwitch ∈ u.funds.waiters)

/-- RATE BEGIN makes the first FREE bank LOADING or is refused by the first test that applies; RATE FINISH
makes the bank PENDING, and CURRENT at once when its day has come, or FREE with its reason; RATE DROP frees a
LOADING or an unnamed PENDING bank. A bank that becomes PENDING, and a PENDING bank dropped, bring a HOLDINGS unless the
lane is OFF-LINE; a LOADING bank dropped brings none. With the dispatch closed, and addressed to a MUTE station, each of
the three changes nothing and is not acknowledged. -/
def Obligations.RateBeginFinishAndDrop : Prop :=
  (∀ (s : State) (addressed : Bool) (g rounding zones count check : Nat) (d : Date), s.powered = true →
    ¬ Takes s addressed →
    exec (.rateBegin addressed g d rounding zones) s = .next (acked s addressed false) ∧
      exec (.rateFinish addressed g count check) s = .next (acked s addressed false) ∧
      exec (.rateDrop addressed g) s = .next (acked s addressed false)) ∧
  ∀ (s : State) (addressed : Bool), s.powered = true → Takes s addressed →
    let free (b : Bank) : Bank :=
      { b with state := .free, generation := none, effective := none, named := false }
    let announced (u : State) : Prop :=
      u.link = { s.link with slots := u.link.slots, ack := ackAfter s addressed true } ∧
        (∀ i, i ≠ .holdings → u.link.slots.get i = s.link.slots.get i) ∧
        (s.pacing.lane ≠ .offLine → HoldingsAsked s u false) ∧
        (s.pacing.lane = .offLine → u.link.slots = s.link.slots)
    (∀ (g rounding zones : Nat) (d : Date),
      let banks := [s.rate.bankA, s.rate.bankB]
      let refusal : Option LoadReason :=
        if g = 0 ∨ 65535 < g ∨ d.valid = false ∨ rounding = 0 ∨ 1000 < rounding ∨ zones = 0 ∨ 10 < zones
          then some .field
        else if (∃ b ∈ banks, b.isLoading = true) then some .loadingBusy
        else if (∃ b ∈ banks, b.state = .pending) then some .pendingHeld
        else if (∀ b ∈ banks, b.state ≠ .free) then some .noFreeBank
        else if (∃ b ∈ banks, b.state ≠ .free ∧ g ≤ b.generation.getD 0) then some .generation
        else if s.clock.invalid then some .clock
        else if s.clock.date.before d = false then some .effectiveDate
        else none
      (∀ reason, refusal = some reason →
        ∃ t : State, exec (.rateBegin addressed g d rounding zones) s = .next t ∧
          LoadRefused s t addressed reason) ∧
      (refusal = none →
        exec (.rateBegin addressed g d rounding zones) s = .next (acked
          { s with rate := s.rate.mapBank (if s.rate.bankA.state = .free then .a else .b) (fun _ =>
              { state := .loading { taken := 0, check := 0xFFFF#16, broken := none },
                generation := some g, effective := some d, rounding := rounding, zones := zones,
                classes := [], surcharges := [], named := false }) }
          addressed true))) ∧
    (∀ (g count check : Nat),
      ((∀ i, ¬ ((s.rate.bank i).isLoading = true ∧ (s.rate.bank i).generation = some g)) →
        ∃ t : State, exec (.rateFinish addressed g count check) s = .next t ∧
          LoadRefused s t addressed .notLoading) ∧
      ∀ (i : BankId) (p : LoadProgress), (s.rate.bank i).state = .loading p →
        (s.rate.bank i).generation = some g → (∀ j, (s.rate.bank j).isLoading = true → j = i) →
        (s.rate.waitingSwitch ≠ none →
          ∃ t : State, exec (.rateFinish addressed g count check) s = .next t ∧
            LoadRefused s t addressed .journal) ∧
        (s.rate.waitingSwitch = none →
          let wanting : Prop := (s.rate.bank i).classes = [] ∨ ∃ c ∈ (s.rate.bank i).classes, c.breaks = []
          (∀ reason,
            (p.broken = some reason) ∨
              (p.broken = none ∧ count ≠ p.taken ∧ reason = .segmentMissing) ∨
              (p.broken = none ∧ count = p.taken ∧ check ≠ p.check.toNat ∧ reason = .check) ∨
              (p.broken = none ∧ count = p.taken ∧ check = p.check.toNat ∧ wanting ∧
                reason = .incomplete) →
            ∃ t : State, exec (.rateFinish addressed g count check) s = .next t ∧
              t.rate = s.rate.mapBank i free ∧ StickyFault.loadFailed reason ∈ t.status.faults ∧
              t.link.ack = ackAfter s addressed false) ∧
          (p.broken = none → count = p.taken → check = p.check.toNat → ¬ wanting →
            (s.clock.invalid = true ∨
              ∀ e, (s.rate.bank i).effective = some e → s.clock.date.before e = true) →
            (∀ j, (s.rate.bank j).state ≠ .pending) →
            ∃ u : State, exec (.rateFinish addressed g count check) s = .next u.settle ∧
              u = { s with
                rate := s.rate.mapBank i (fun b => { b with state := .pending }), link := u.link } ∧
              announced u) ∧
          (∀ e, p.broken = none → count = p.taken → check = p.check.toNat → ¬ wanting →
            (s.rate.bank i).effective = some e → s.clock.invalid = false → s.clock.date.before e = false →
            (∀ j, (s.rate.bank j).state ≠ .pending) →
            ∃ u : State, exec (.rateFinish addressed g count check) s = .next u.settle ∧
              SwitchMade s u i ∧ u.status = s.status ∧ announced u ∧ u.clock = s.clock))) ∧
    ∀ (g : Nat),
      ((∀ i, ¬ ((s.rate.bank i).state ≠ .free ∧ (s.rate.bank i).generation = some g)) →
        ∃ t : State, exec (.rateDrop addressed g) s = .next t ∧ LoadRefused s t addressed .noSuchBank) ∧
      ∀ i : BankId, (s.rate.bank i).generation = some g →
        (∀ j, (s.rate.bank j).state ≠ .free → (s.rate.bank j).generation = some g → j = i) →
        ((s.rate.bank i).state = .current ∨ (s.rate.bank i).state = .retiring →
          ∃ t : State, exec (.rateDrop addressed g) s = .next t ∧
            LoadRefused s t addressed .isProtected) ∧
        ((s.rate.bank i).state = .pending → (s.rate.bank i).named = true →
          ∃ t : State, exec (.rateDrop addressed g) s = .next t ∧ LoadRefused s t addressed .inUse) ∧
        ((s.rate.bank i).isLoading = true →
          exec (.rateDrop addressed g) s = .next (acked
            { s with rate := s.rate.mapBank i free } addressed true)) ∧
        ((s.rate.bank i).state = .pending → (s.rate.bank i).named = false →
          ∃ t : State, exec (.rateDrop addressed g) s = .next t ∧
            t = { s with rate := s.rate.mapBank i free, link := t.link } ∧ announced t)

/-- A RATE LOAD: NOT LOADING without its bank; a frame of a broken load and a repeat change no bank; an
index past the count breaks the load with SEGMENT MISSING; a segment at the count is stored with the count
and the running check carried on, or breaks the load with its reason. A class header, a break row and a surcharge
are judged by their tests in order. With the dispatch closed, and addressed to a MUTE station, the frame changes nothing
and is not acknowledged. That the frame of a broken load is not acknowledged is the model's choice
(log 23), and so are the first byte of a SERVICE threshold (log 47) and the unused class codes (log 48). -/
def Obligations.RateLoadStoresSegmentsInOrder : Prop :=
  (∀ (s : State) (addressed : Bool) (g index : Nat) (seg : Segment), s.powered = true →
    ¬ Takes s addressed →
    exec (.rateLoad addressed g index seg) s = .next (acked s addressed false)) ∧
  (∀ (s : State) (addressed : Bool) (g index : Nat) (seg : Segment), s.powered = true →
    Takes s addressed →
    ((∀ i, ¬ ((s.rate.bank i).isLoading = true ∧ (s.rate.bank i).generation = some g)) →
      ∃ t : State, exec (.rateLoad addressed g index seg) s = .next t ∧
        LoadRefused s t addressed .notLoading) ∧
    ∀ (i : BankId) (p : LoadProgress), (s.rate.bank i).state = .loading p →
      (s.rate.bank i).generation = some g → (∀ j, (s.rate.bank j).isLoading = true → j = i) →
      (p.broken ≠ none →
        exec (.rateLoad addressed g index seg) s = .next (acked s addressed false)) ∧
      (p.broken = none → index < p.taken →
        exec (.rateLoad addressed g index seg) s = .next (acked s addressed true)) ∧
      (∀ reason, p.broken = none →
        (p.taken < index ∧ reason = .segmentMissing) ∨
          (index = p.taken ∧ (s.rate.bank i).addSegment seg = .error reason) →
        ∃ t : State, exec (.rateLoad addressed g index seg) s = .next t ∧
          t.rate = s.rate.mapBank i (fun b =>
            { b with state := .loading { p with broken := some reason } }) ∧
          StickyFault.loadFailed reason ∈ t.status.faults ∧
          t.link.ack = ackAfter s addressed false) ∧
      ∀ b : Bank, p.broken = none → index = p.taken → (s.rate.bank i).addSegment seg = .ok b →
        let next : LoadProgress :=
          { taken := p.taken + 1, check := checkBytes p.check (segmentBytes seg), broken := none }
        exec (.rateLoad addressed g index seg) s = .next (acked
          { s with rate := s.rate.mapBank i (fun _ => { b with state := .loading next }) }
          addressed true)) ∧
  (∀ (b : Bank) (code w l wd t : Nat),
    b.addSegment (.classHeader code w l wd t) =
      if 8 ≤ b.classes.length then .error .tooMany
      else if (∃ c ∈ b.classes, c.code = code) then .error .duplicateClass
      else if w = 0 ∨ 20000 < w ∨ l = 0 ∨ 40000 < l ∨ wd = 0 ∨ 6000 < wd ∨ t = 0 ∨ 6000 < t then
        .error .field
      else .ok { b with classes := b.classes ++
        [{ code := code, maxWeight := w, maxLength := l, maxWidth := wd, maxThickness := t,
           breaks := [] }] }) ∧
  (∀ (b : Bank) (limit : Nat) (prices : List Nat),
    (b.classes = [] → b.addSegment (.breakRow limit prices) = .error .order) ∧
    ∀ (earlier : List RateClass) (c : RateClass), b.classes = earlier ++ [c] →
      b.addSegment (.breakRow limit prices) =
        if 24 ≤ c.breaks.length then .error .tooMany
        else if limit = 0 ∨ 20000 < limit ∨ prices.length ≠ b.zones ∨
            (∃ v ∈ prices, 999999 < v ∧ v ≠ 0xFFFFFF) then .error .field
        else if (∃ k ∈ c.breaks, limit ≤ k.limit) then .error .order
        else .ok { b with classes := earlier ++
          [{ c with breaks := c.breaks ++
              [{ limit := limit,
                 prices := prices.map (fun v => if v = 0xFFFFFF then none else some v) }] }] }) ∧
  ∀ (b : Bank) (count : Nat) (codes : List Nat) (kind threshold fixed perStep step : Nat),
    let judged := b.addSegment (.surcharge count codes kind threshold fixed perStep step)
    let low := threshold / 256
    let high := threshold % 256
    let named (c : Condition) : Prop :=
      (kind = 1 ∧ threshold ≤ 255 ∧ c = .service threshold) ∨
      (kind = 2 ∧ threshold ≤ 6000 ∧ c = .thicknessOver threshold) ∨
      (kind = 3 ∧ threshold ≤ 40000 ∧ c = .lengthOver threshold) ∨
      (kind = 4 ∧ threshold ≤ 20000 ∧ c = .weightOver threshold) ∨
      (kind = 5 ∧ 1 ≤ low ∧ low ≤ high ∧ high ≤ b.zones ∧ c = .zoneRange low high)
    (16 ≤ b.surcharges.length → judged = .error .tooMany) ∧
    (b.surcharges.length < 16 →
      ((∀ c, ¬ named c) → judged = .error .field) ∧
      ∀ c, named c →
        judged =
          if 8 < count ∨ ((kind = 1 ∨ kind = 5) ∧ perStep ≠ 0) ∨ 999999 < fixed ∨ 999999 < perStep ∨
              step = 0 ∨ 40000 < step then .error .field
          else .ok { b with surcharges := b.surcharges ++
            [{ classSet := if count = 0 then none else some (codes.take count), condition := c,
               fixed := fixed, perStep := perStep, step := step }] })

/-! ### Configuration, funds frames, lane frames -/

/-- Field `n` of a SETTLE record fails (R151, R172): it lies outside its range (R1, R25, R124), or a relation does not
hold of whose fields it is the last in the record (the model's reading, log 32). -/
def Sys2Proof.Machine.FieldFails (r : SettleRecord) (n : Nat) : Prop :=
  let outside (v low high : Nat) : Prop := v < low ∨ high < v
  (n = 1 ∧ outside r.p0 1 16000) ∨
  (n = 2 ∧ (outside r.p1 1 16000 ∨ r.p1 ≤ r.p0)) ∨
  (n = 3 ∧ (outside r.bar 1 16000 ∨ r.bar ≤ r.p1)) ∨
  (n = 4 ∧ (outside r.decision 1 16000 ∨ r.decision ≤ r.bar)) ∨
  (n = 5 ∧ (outside r.arm 1 16000 ∨ r.arm ≤ r.decision)) ∨
  (n = 6 ∧ (outside r.print 1 16000 ∨ r.print ≤ r.arm)) ∨
  (n = 7 ∧ (outside r.exit 1 16000 ∨ r.exit ≤ r.print)) ∨
  (n = 8 ∧ outside r.window 20 2000) ∨
  (n = 9 ∧ (outside r.tolerance 4 400 ∨ r.print ≤ r.arm + r.tolerance ∨
    r.exit ≤ r.print + r.window + r.tolerance)) ∨
  (n = 10 ∧ 2000 < r.settleDistance) ∨
  (n = 11 ∧ (outside r.gap 40 4000 ∨ r.gap ≤ 2 * r.tolerance)) ∨
  (n = 13 ∧ r.notePresent = true ∧ 4 < r.noteCount) ∨
  (n = 14 ∧ r.notePresent = true ∧ 255 < r.noteClass) ∨
  (n = 15 ∧ r.notePresent = true ∧ 255 < r.noteZone) ∨
  (n = 17 ∧ 99999999 < r.feedFloor) ∨ (n = 18 ∧ 50000 < r.referenceZero) ∨
  (n = 19 ∧ outside r.minSamples 4 32) ∨ (n = 20 ∧ outside r.steadiness 1 500) ∨
  (n = 21 ∧ 99999999 < r.lowMark) ∨ (n = 22 ∧ (999999999 < r.keepAmount ∨ r.keepAmount < r.lowMark)) ∨
  (n = 23 ∧ outside r.askAmount 1 99999999) ∨ (n = 24 ∧ outside r.askTimeout 100 10000) ∨
  (n = 25 ∧ 65535 < r.lineId) ∨ (n = 26 ∧ outside r.idleSpan 5 600) ∨
  (n = 27 ∧ outside r.heatFactor 1 8) ∨ (n = 28 ∧ outside r.creditFactor 1 8)

/-- The settings `g` are those that the record gives (R151, R172): each field its own, and the default note absent with
its presence bit 0, otherwise its class, its zone and the first service codes up to the count, marked default. -/
def Sys2Proof.Machine.SettingsGiven (r : SettleRecord) (g : Settings) : Prop :=
  g.geometry.p0 = r.p0 ∧ g.geometry.p1 = r.p1 ∧ g.geometry.bar = r.bar ∧ g.geometry.decision = r.decision ∧
    g.geometry.arm = r.arm ∧ g.geometry.print = r.print ∧ g.geometry.exit = r.exit ∧
    g.geometry.window = r.window ∧ g.geometry.tolerance = r.tolerance ∧
    g.geometry.settleDistance = r.settleDistance ∧ g.geometry.gap = r.gap ∧
    (r.notePresent = false → g.defaultNote = none) ∧
    (r.notePresent = true → ∃ n : Note, g.defaultNote = some n ∧ n.classCode = r.noteClass ∧
      n.zone = r.noteZone ∧ n.services = r.noteServices.take r.noteCount ∧ n.isDefault = true) ∧
    g.feedFloor = r.feedFloor ∧ g.referenceZero = r.referenceZero ∧ g.minSamples = r.minSamples ∧
    g.steadiness = r.steadiness ∧ g.lowMark = r.lowMark ∧ g.keepAmount = r.keepAmount ∧
    g.askAmount = r.askAmount ∧ g.askTimeout = r.askTimeout ∧ g.lineId = r.lineId ∧
    g.idleSpan = r.idleSpan ∧ g.heatFactor = r.heatFactor ∧ g.creditFactor = r.creditFactor

/-- SETTLE is judged whole in OFF-LINE: every range and relation of its record must hold, and the lowest failing
field number is given; the number of each check stands in FieldFails. Accepted, every block holds its settings, field by
field those of the record, the zero history is filled with the reference zero and the lane enters READY with all that a
change of lane state brings; refused, SETTLE REFUSED is raised and nothing else changes; in any other lane state it is
disregarded. The place of a RUN MARK claim that replaces one that waits is the model's choice (log 59). -/
def Obligations.SettleJudgedWholeInOffLine : Prop :=
  (∀ r : SettleRecord,
    (settleFailing r = none ↔
      1 ≤ r.p0 ∧ r.p0 < r.p1 ∧ r.p1 < r.bar ∧ r.bar < r.decision ∧ r.decision < r.arm ∧ r.arm < r.print ∧
        r.print < r.exit ∧ r.exit ≤ 16000 ∧ 20 ≤ r.window ∧ r.window ≤ 2000 ∧ 4 ≤ r.tolerance ∧
        r.tolerance ≤ 400 ∧ r.arm + r.tolerance < r.print ∧ r.print + r.window + r.tolerance < r.exit ∧
        r.settleDistance ≤ 2000 ∧ 40 ≤ r.gap ∧ r.gap ≤ 4000 ∧ 2 * r.tolerance < r.gap ∧
        (r.notePresent = true → r.noteCount ≤ 4 ∧ r.noteClass ≤ 255 ∧ r.noteZone ≤ 255) ∧
        r.feedFloor ≤ 99999999 ∧ r.referenceZero ≤ 50000 ∧ 4 ≤ r.minSamples ∧ r.minSamples ≤ 32 ∧
        1 ≤ r.steadiness ∧ r.steadiness ≤ 500 ∧ r.lowMark ≤ 99999999 ∧ r.keepAmount ≤ 999999999 ∧
        r.lowMark ≤ r.keepAmount ∧ 1 ≤ r.askAmount ∧ r.askAmount ≤ 99999999 ∧ 100 ≤ r.askTimeout ∧
        r.askTimeout ≤ 10000 ∧ r.lineId ≤ 65535 ∧ 5 ≤ r.idleSpan ∧ r.idleSpan ≤ 600 ∧
        1 ≤ r.heatFactor ∧ r.heatFactor ≤ 8 ∧ 1 ≤ r.creditFactor ∧ r.creditFactor ≤ 8) ∧
    ∀ n, settleFailing r = some n ↔ FieldFails r n ∧ ∀ m, FieldFails r m → n ≤ m) ∧
  ∀ (s : State) (r : SettleRecord), s.powered = true →
    (¬ Takes s true ∨ s.pacing.lane ≠ .offLine → exec (.settle r) s = .next (acked s true false)) ∧
    (Takes s true → s.pacing.lane = .offLine →
      (∀ n, settleFailing r = some n →
        exec (.settle r) s = .next
          { acked s true false with status := s.status.raise (.settleRefused n) }) ∧
      (settleFailing r = none →
        ∃ (g : Settings) (u : State), exec (.settle r) s = .next u.settle ∧ SettingsGiven r g ∧
          u.pacing.settings = some g ∧ u.pacing.lane = .ready ∧
          u.weigh = { s.weigh with zero := some (List.replicate 16 r.referenceZero), scaleZero := false } ∧
          u.link.ack = ackAfter s true true ∧
          LaneEntered
            { s with
              pacing := { s.pacing with settings := some g },
              weigh := { s.weigh with
                zero := some (List.replicate 16 r.referenceZero), scaleZero := false } } u .ready ∧
          (s.link.sending .holdings = false → u.link.slots.holdings.req = some (.holdings true))))

/-- REFILL: refused with STATE in OFF-LINE and with FIELD for an amount out of range; otherwise claimed, the
acknowledge waiting on the answer, and refused with the store's reason. REMIT: taken when every test of it
holds, its destination and remaining held and a LOT PASS of its purpose placed, in place of one whose passage
has not begun; otherwise only its acknowledge stays undriven. A REFILL while another link claim is
outstanding is not taken (the model's choice, log 27). -/
def Obligations.RefillAndRemitFrames : Prop :=
  (∀ (s : State) (serial amount : Nat), s.powered = true →
    let claim : Claim := .refill serial amount
    let waiting : State := { s with link := { s.link with ack := .pending } }
    (¬ Takes s true ∨ s.funds.arbiter.linkBusy = true →
      exec (.refill serial amount) s = .next (acked s true false)) ∧
    (Takes s true → s.funds.arbiter.linkBusy = false →
      (s.pacing.lane = .offLine →
        exec (.refill serial amount) s = .next
          { acked s true false with status := s.status.raise (.refillRefused serial .state) }) ∧
      (s.pacing.lane ≠ .offLine → amount = 0 ∨ 99999999 < amount →
        exec (.refill serial amount) s = .next
          { acked s true false with status := s.status.raise (.refillRefused serial .field) }) ∧
      (s.pacing.lane ≠ .offLine → 1 ≤ amount → amount ≤ 99999999 →
        (s.funds.arbiter.idle = true → s.verdict claim = .write →
          exec (.refill serial amount) s = .next (State.settle
            { waiting with
              funds := { s.funds with arbiter := { s.funds.arbiter with writing := some claim } } })) ∧
        (s.funds.arbiter.idle = false →
          exec (.refill serial amount) s = .next (State.settle
            { waiting with
              funds := { s.funds with arbiter := { s.funds.arbiter with link := some claim } } })) ∧
        (∀ reason, s.funds.arbiter.idle = true → s.verdict claim = .refused reason →
          ∃ t : State, exec (.refill serial amount) s = .next t ∧
            StickyFault.refillRefused serial reason.refillReason ∈ t.status.faults ∧
            t.link.ack = .released ∧ t.funds.store = s.funds.store)))) ∧
  ∀ (s : State) (dest amount : Nat), s.powered = true →
    let taken : Prop := Takes s true ∧ (s.pacing.lane = .ready ∨ s.pacing.lane = .stopped) ∧
      s.funds.reserved = 0 ∧ s.funds.store.outbound = none ∧ s.credit.remit = none ∧ 1 ≤ dest ∧
      dest ≤ 14 ∧ dest ≠ s.link.station ∧
      (amount = 0 ∨ (amount ≤ 999999999 ∧ amount ≤ s.funds.store.available)) ∧
      s.funds.storeFault = false ∧ s.funds.store.nextPassage ≤ 4294967295
    let remit : Remit := { dest := dest, remaining := if amount = 0 then none else some amount }
    (¬ taken → exec (.remit dest amount) s = .next (acked s true false)) ∧
    (taken →
      ∃ l : Link, exec (.remit dest amount) s = .next
          { s with credit := { s.credit with remit := some remit }, link := l } ∧
        l.ack = ackAfter s true true ∧
        (s.link.attempt = none →
          (∀ q, s.link.slots.passage.req = some q → ∃ p, q = .lotPass p .waiting ∨ q = .lotPass p .claimed) →
          l.slots = { s.link.slots with passage := .holding (.lotPass .remit .waiting) }))

/-- LINE RUN, LINE STOP and RESUME in every lane state, and THROTTLE: the lane's new state and all that a change of lane
state brings, the acknowledge, and what stays as it was. In every lane state the drive is on in RUNNING and DRAINING and
off in the others, and the quiet line is driven in QUIET and released in the others. LINE RUN asks for no WAKE. When the heat timer starts is the
model's reading (log 33). The place of a RUN MARK claim that replaces one that waits is its choice (log 59), and so it is
that a HOLD still waiting stays in its slot when a LINE STOP ends an objection window by taking the lane from RUNNING to
READY (logs 22, 58). -/
def Obligations.LaneFramesFollowTheirTable : Prop :=
  (∀ s : State,
    (s.pacing.lane.drive = true ↔ s.pacing.lane = .running ∨ s.pacing.lane = .draining) ∧
      (s.pacing.lane.quietLine = true ↔ s.pacing.lane = .quiet)) ∧
  ∀ (s : State) (addressed : Bool), s.powered = true →
    let passes (c : Instr) (lane : Lane) : Prop :=
      ∃ u : State, exec c s = .next u.settle ∧ u.pacing.lane = lane ∧ LaneEntered s u lane ∧
        u.link.ack = ackAfter s addressed true
    let answers (c : Instr) (taken : Bool) : Prop := exec c s = .next (acked s addressed taken)
    (¬ Takes s addressed →
      answers (.lineRun addressed) false ∧ answers (.lineStop addressed) false ∧
        (addressed = true → answers .resume false) ∧
        ∀ factor, answers (.throttle addressed factor) false) ∧
    (Takes s addressed →
      (s.pacing.lane = .ready ∨ s.pacing.lane = .quiet → passes (.lineRun addressed) .running) ∧
      (s.pacing.lane = .running → answers (.lineRun addressed) true) ∧
      (s.pacing.lane = .offLine ∨ s.pacing.lane = .draining ∨ s.pacing.lane = .stopped →
        answers (.lineRun addressed) false) ∧
      (s.pacing.lane = .offLine → answers (.lineStop addressed) false) ∧
      (s.pacing.lane = .ready ∨ s.pacing.lane = .draining ∨ s.pacing.lane = .stopped →
        answers (.lineStop addressed) true) ∧
      (s.pacing.lane = .running → s.track.records ≠ [] → passes (.lineStop addressed) .draining) ∧
      (s.pacing.lane = .running → s.track.records = [] → passes (.lineStop addressed) .ready) ∧
      (s.pacing.lane = .quiet → passes (.lineStop addressed) .ready) ∧
      (addressed = true → s.pacing.lane = .stopped → s.pacing.button = false →
        s.print.headReady = true → passes .resume .ready) ∧
      (addressed = true →
        s.pacing.lane ≠ .stopped ∨ s.pacing.button = true ∨ s.print.headReady = false →
        answers .resume false) ∧
      ∀ factor : Nat,
        (1 ≤ factor → factor ≤ 8 →
          exec (.throttle addressed factor) s = .next
            { acked s addressed true with pacing := { s.pacing with consoleFactor := factor } }) ∧
        (factor = 0 ∨ 8 < factor → answers (.throttle addressed factor) false))

/-- A CLEAR makes the sticky faults of its mask absent, with their details, and sets the counters of its mask to 0, in
every lane state, and it is acknowledged; it leaves every current condition, and all else, as it stands. A MUTE station
disregards it (R168). -/
def Obligations.ClearMakesNamedFaultsAbsent : Prop :=
  ∀ s : State, s.powered = true →
    ∀ faults counters : Nat,
      (¬ Takes s true → exec (.clear faults counters) s = .next (acked s true false)) ∧
      (Takes s true →
        exec (.clear faults counters) s = .next
          { s with
            status := { s.status with
              faults := s.status.faults.filter (fun f => !faults.testBit (f.order - 1)) },
            link := { s.link with
              checkErrors := if counters.testBit 0 then 0 else s.link.checkErrors,
              ack := ackAfter s true true },
            track := { s.track with
              feedMisses := if counters.testBit 1 then 0 else s.track.feedMisses,
              diverted := if counters.testBit 3 then 0 else s.track.diverted },
            weigh := { s.weigh with
              unboundBar := if counters.testBit 2 then 0 else s.weigh.unboundBar },
            print := { s.print with
              franked := if counters.testBit 4 then 0 else s.print.franked } })

/-! ### The franking date -/

/-- DATE SET: refused unless its date and time are valid; otherwise date and time are replaced, the update is
cancelled, CLOCK INVALID and CLOCK DISAGREE cease with their sticky faults held, the heard-turn date and the
own waiting DAY TURN go, a PENDING bank whose day has come becomes CURRENT with its BANK SWITCH entry, and a
DATE SET entry joins the journal queue after it or waits. A sample that the cancelled update held back is answered with
the new date. POSTDATE: an offset of 0..7 replaces the one held, or is held back by an update. What becomes of the
sample and of the frames held back is the model's choice (log 14), and so is the order among waiting entries
(logs 25, 45). -/
def Obligations.DateSetAndPostdateFrames : Prop :=
  ∀ (s : State) (addressed : Bool), s.powered = true →
    (∀ (d : Date) (t : TimeOfDay),
      (¬ Takes s addressed ∨ d.valid = false ∨ t.valid = false →
        exec (.dateSet addressed d t) s = .next (acked s addressed false)) ∧
      (Takes s addressed → d.valid = true → t.valid = true →
        ∃ u : State, exec (.dateSet addressed d t) s = .next u.settle ∧
          u.clock.date = d ∧ u.clock.time = t ∧ u.clock.updating = false ∧ u.clock.held = [] ∧
          u.clock.invalid = false ∧ u.clock.disagree = false ∧ u.clock.heardTurn = none ∧
          u.clock.latch = s.clock.latch ∧ u.clock.latchReported = s.clock.latchReported ∧
          u.status = s.status ∧ u.link.ack = ackAfter s addressed true ∧
          u.funds.store = s.funds.store ∧ u.pacing = s.pacing ∧
          (s.clock.held = [] → u.clock.postdate = s.clock.postdate) ∧
          (s.link.sending .dayTurn = false → u.link.slots.dayTurn.req = none) ∧
          (s.pacing.lane ≠ .offLine → s.link.sending .holdings = false → u.link.full .holdings = true) ∧
          (let entry : Entry := .dateSet d t s.clock.date;
            (∀ i e, (s.rate.bank i).state = .pending → (s.rate.bank i).effective = some e →
              (∀ j, (s.rate.bank j).state = .pending → j = i) → d.before e = false →
              BanksSwitched s u i ∧
                (roomAfter s 0 = true → s.funds.waiters = [] →
                  (roomAfter s 1 = true → u.funds.queue = s.funds.queue ++ [switchEntry s i d, entry]) ∧
                  (roomAfter s 1 = false →
                    u.funds.queue = s.funds.queue ++ [switchEntry s i d] ∧
                      u.clock.waitingEntry = some entry ∧ u.funds.waiters = [.dateSet])) ∧
                (roomAfter s 0 = false ∨ s.funds.waiters ≠ [] →
                  u.funds.queue = s.funds.queue ∧ u.rate.waitingSwitch = some (switchEntry s i d) ∧
                    u.clock.waitingEntry = some entry ∧ Waiter.bankSwitch ∈ u.funds.waiters ∧
                    Waiter.dateSet ∈ u.funds.waiters)) ∧
            ((∀ i e, (s.rate.bank i).state = .pending → (s.rate.bank i).effective = some e →
                d.before e = true) →
              u.rate = s.rate ∧
                (roomAfter s 0 = true → s.funds.waiters = [] →
                  u.funds.queue = s.funds.queue ++ [entry]) ∧
                (roomAfter s 0 = false ∨ s.funds.waiters ≠ [] →
                  u.funds.queue = s.funds.queue ∧ u.clock.waitingEntry = some entry ∧
                    Waiter.dateSet ∈ u.funds.waiters))) ∧
          (let awaited (r : Rating) : Prop := s.clock.updating = true ∧ s.engine.rating = some r ∧
              r.stage = .sampling;
            ((∀ r, ¬ awaited r) → u.engine = s.engine ∧ u.track = s.track) ∧
            ∀ r, awaited r →
              (∀ printed : Date, d.plus s.clock.postdate = some printed →
                u.engine = { s.engine with
                    rating := some
                      { r with stage := .choosing, sampled := some d, printed := some printed } } ∧
                  u.track = { s.track with
                    records := onTag r.tag (fun q =>
                      { q with sampled := some d, printed := some printed }) s.track.records }) ∧
              (d.plus s.clock.postdate = none →
                u.engine = { s.engine with rating := none } ∧
                  u.track = { s.track with
                    records := onTag r.tag (fun q =>
                      if q.state.unaccepted then
                        { q with state := .failed, reason := some (.divert .clock) } else q)
                      s.track.records })))) ∧
    ∀ offset : Nat,
      (¬ Takes s addressed ∨ 7 < offset →
        exec (.postdate addressed offset) s = .next (acked s addressed false)) ∧
      (Takes s addressed → offset ≤ 7 →
        (s.clock.updating = false →
          exec (.postdate addressed offset) s = .next
            { acked s addressed true with clock := { s.clock with postdate := offset } }) ∧
        (s.clock.updating = true →
          exec (.postdate addressed offset) s = .next
            { acked s addressed true with
              clock := { s.clock with held := s.clock.held ++ [.postdate offset] } }))

/-- An advance to the date `d` has been reported (R145): a HOLDINGS is asked for unless the lane is OFF-LINE, and the
switch is made to a PENDING bank whose day has come. -/
def Sys2Proof.Machine.AdvanceReported (s u : State) (d : Date) : Prop :=
  (s.pacing.lane ≠ .offLine → HoldingsAsked s u false) ∧
  (∀ i e, (s.rate.bank i).state = .pending → (s.rate.bank i).effective = some e →
    (∀ j, (s.rate.bank j).state = .pending → j = i) → d.before e = false → SwitchMade s u i) ∧
  ((∀ i e, (s.rate.bank i).state = .pending → (s.rate.bank i).effective = some e → d.before e = true) →
    u.rate = s.rate ∧ u.funds = s.funds)

/-- A date sample has been answered from a clock (R60): both dates on the record and the engine choosing its bank, or
CLOCK when the clock is invalid or the printed date would pass 2099-12-31. -/
def Sys2Proof.Machine.SampleAnswered (s u : State) (r : Rating) (c : Clock) : Prop :=
  (∀ printed : Date, c.invalid = false → c.date.plus c.postdate = some printed →
    u.track = { s.track with
      records := onTag r.tag (fun q =>
        { q with sampled := some c.date, printed := some printed }) s.track.records } ∧
    u.engine = { s.engine with
      rating := some { r with stage := .choosing, sampled := some c.date, printed := some printed } }) ∧
  (c.invalid = true ∨ c.date.plus c.postdate = none →
    u.track = { s.track with
      records := onTag r.tag (fun q =>
        if q.state.unaccepted then { q with state := .failed, reason := some (.divert .clock) } else q)
        s.track.records } ∧
    u.engine = { s.engine with rating := none })

/-- The rating in progress waits on a date sample. -/
def Sys2Proof.Machine.Samples (s : State) (r : Rating) : Prop :=
  s.engine.rating = some r ∧ r.stage = .sampling

/-- The second that an update counts has been counted, and a sample that waits answered, with the status and the clock
given; nothing else has changed. -/
def Sys2Proof.Machine.SecondLeaves (s u : State) (c : Clock) (status : Status) : Prop :=
  ((∀ r, ¬ Samples s r) → u = { s with clock := c, status := status }) ∧
  ∀ r, Samples s r →
    SampleAnswered s u r c ∧
      u = { s with clock := c, status := status, track := u.track, engine := u.engine }

/-- What an update leaves before the requests it held back are taken (R141 to R143, R145): the second counted; past
23:59:59 of a valid clock the day turned, with a DAY TURN unless it has been heard, a HOLDINGS and the switch to a
PENDING bank whose day has come, or, past 2099-12-31, the clock invalid. A sample that waits is answered from the clock
left, after the switch (log 14). -/
def Sys2Proof.Machine.SecondCounted (s u : State) : Prop :=
  let last : Prop := s.clock.time = ⟨23, 59, 59⟩
  let done : Clock := { s.clock with updating := false, held := [] }
  (¬ last → SecondLeaves s u { done with time := s.clock.time.tick } s.status) ∧
  (last → s.clock.invalid = true → SecondLeaves s u { done with time := ⟨0, 0, 0⟩ } s.status) ∧
  (last → s.clock.invalid = false → s.clock.date.next = none →
    SecondLeaves s u { done with time := ⟨0, 0, 0⟩, invalid := true } (s.status.raise .clockInvalid)) ∧
  ∀ d, last → s.clock.invalid = false → s.clock.date.next = some d →
    u.clock = { done with date := d, time := ⟨0, 0, 0⟩, waitingEntry := u.clock.waitingEntry } ∧
    u.status = s.status ∧ u.funds.store = s.funds.store ∧ u.pacing = s.pacing ∧
    ((∀ r, ¬ Samples s r) → u.track = s.track ∧ u.engine = s.engine) ∧
    (∀ r, Samples s r → SampleAnswered s u r u.clock) ∧
    (s.link.sending .dayTurn = false →
      u.link.slots.dayTurn =
        if s.clock.heardTurn = some d then s.link.slots.dayTurn else .holding (.dayTurn d)) ∧
    AdvanceReported s u d

/-- A DAY TURN heard has been judged against the own date and time (R144, R146). -/
def Sys2Proof.Machine.TurnJudged (s u : State) (d : Date) : Prop :=
  let follows : Prop := s.clock.date.next = some d ∧ s.clock.time.hour = 23 ∧ 58 ≤ s.clock.time.minute
  (s.clock.invalid = true ∨ d.valid = false → u = s) ∧
  (s.clock.invalid = false → d.valid = true →
    (d = s.clock.date → u = { s with clock := { s.clock with heardTurn := some d } }) ∧
    (d ≠ s.clock.date → ¬ follows →
      u = { s with
        clock := { s.clock with heardTurn := some d, disagree := true },
        status := s.status.raise (.clockDisagree d s.clock.date s.clock.time) }) ∧
    (d ≠ s.clock.date → follows →
      u.clock = { s.clock with
        date := d, time := ⟨0, 0, 0⟩, heardTurn := some d, waitingEntry := u.clock.waitingEntry } ∧
      u.status = s.status ∧ u.track = s.track ∧ u.engine = s.engine ∧ u.pacing = s.pacing ∧
      u.funds.store = s.funds.store ∧
      (s.link.sending .dayTurn = false → u.link.slots.dayTurn = .empty) ∧ AdvanceReported s u d))

/-- The requests that an update held back have been taken, in the order of their arrival (R141): a POSTDATE replaces the
offset, a DAY TURN is judged against the date and time as the ones before it have left them. -/
def Sys2Proof.Machine.HeldTaken : List Held → State → State → Prop
  | [], s, u => u = s
  | .postdate offset :: rest, s, u =>
    HeldTaken rest { s with clock := { s.clock with postdate := offset } } u
  | .dayTurn d :: rest, s, u => ∃ v, TurnJudged s v d ∧ HeldTaken rest v u

/-- The calendar and the update: the valid dates, the next day as the first valid date after one, and the second
an update counts; past 23:59:59 a local day turn advances the date, with a DAY TURN unless it has been heard, a
HOLDINGS and the switch to a PENDING bank whose day has come, and past 2099-12-31 makes the clock invalid; while CLOCK
INVALID is current only the time passes. POSTDATE and DAY TURN frames held back are then taken in the order of their
arrival, each DAY TURN judged against the date and time that those before it have left: the own date is heard, the next
day in the last two minutes is followed, any other raises CLOCK DISAGREE. A date sample that waits is answered with the
date, the offset and the validity that the update has left, after the switch and before the requests held back (log 14).
On the battery the second is counted and the date turned in the same way, with CLOCK INVALID past 2099-12-31, and nothing
else is done (the model's reading, logs 11 and 12). -/
def Obligations.UpdateCountsSecondAndTurnsDay : Prop :=
  (∀ y m d : Nat, (Date.mk y m d).valid = true ↔
    2000 ≤ y ∧ y ≤ 2099 ∧ 1 ≤ m ∧ m ≤ 12 ∧ 1 ≤ d ∧
      d ≤ (if m = 2 then (if y % 4 = 0 then 29 else 28)
        else if m = 4 ∨ m = 6 ∨ m = 9 ∨ m = 11 then 30 else 31)) ∧
  (∀ d : Date, d.valid = true →
    (d.next = none ↔ d = ⟨2099, 12, 31⟩) ∧
    ∀ e, d.next = some e → e.valid = true ∧ d.before e = true ∧
      ∀ f : Date, f.valid = true → d.before f = true → f.before e = false) ∧
  (∀ t : TimeOfDay, t.valid = true → t ≠ ⟨23, 59, 59⟩ → t.tick.valid = true ∧
    t.tick.hour * 3600 + t.tick.minute * 60 + t.tick.second =
      t.hour * 3600 + t.minute * 60 + t.second + 1) ∧
  (∀ s : State,
    exec .clockUpdateStart s = .next { s with clock := { s.clock with updating := true } } ∧
    (s.clock.updating = false → exec .clockUpdateComplete s = .next s)) ∧
  (∀ s : State, s.powered = true → s.clock.updating = true →
    ∃ v u : State, exec .clockUpdateComplete s = .next u.settle ∧ SecondCounted s v ∧
      HeldTaken s.clock.held v u) ∧
  ∀ s : State, s.powered = false → s.clock.updating = true →
    exec .clockUpdateComplete s = .next
      { s with clock :=
          if s.clock.time = ⟨23, 59, 59⟩ ∧ s.clock.invalid = false then
            match s.clock.date.next with
            | some d => { s.clock with updating := false, date := d, time := ⟨0, 0, 0⟩ }
            | none => { s.clock with updating := false, time := ⟨0, 0, 0⟩, invalid := true }
          else { s.clock with updating := false, time := s.clock.time.tick } }

/-! ### Frames of other stations -/

/-- A table keyed by station after one entry is changed: that entry stands as given, every other as before. -/
def Sys2Proof.Machine.EntrySet {α : Type} (before after : List (Nat × α)) (station : Nat) (v : Option α) :
    Prop :=
  lookup after station = v ∧ ∀ x, x ≠ station → lookup after x = lookup before x

/-- DUPLICATE STATION has been raised by a frame received whole with the station's own number as its source (R122):
the station is MUTE with nothing of its own offered, its ask is closed, a remit is over, and the lane is STOPPED and
abandoned unless it is OFF-LINE or STOPPED. That an attempt in progress ends with its slot is the model's choice
(log 35). -/
def Sys2Proof.Machine.DuplicateRaised (s t : State) : Prop :=
  t.link.duplicate = true ∧ t.link.mute = true ∧ t.link.attempt = none ∧
    (∀ i, t.link.offers i = false) ∧ t.status.holds 2 = true ∧ t.credit.ask = none ∧
    t.credit.remit = none ∧ t.funds.store = s.funds.store ∧
    (s.pacing.lane = .offLine ∨ s.pacing.lane = .stopped → t.pacing.lane = s.pacing.lane) ∧
    (s.pacing.lane ≠ .offLine → s.pacing.lane ≠ .stopped →
      t.pacing.lane = .stopped ∧ t.pacing.window = none ∧ t.track.records = [] ∧ t.track.notes = [] ∧
        t.weigh.platform = [])

/-- HOLDINGS enters the roster, is handed to RATES BEHIND, drops a mirror entry when it shows no ask, and when
fresh brings a HOLDINGS of this station's own; CREDIT ASK makes the mirror entry; a LOT PASS heard with its
acknowledge lowers or drops it. A damaged frame is counted with LINK CHECK. A disregarded one is not acknowledged and
has its source tested: the station's own number raises DUPLICATE STATION, which makes the station MUTE, empties its
slots and stops the lane. A HOLDINGS, a CREDIT ASK or a LOT PASS heard with the own number raises it too, and is
dispatched after it (the model's choice, log 16), with no roster or mirror entry made. That an attempt in
progress ends with the slots is the model's choice (log 35). -/
def Obligations.PeerAnnouncementsTaken : Prop :=
  (∀ (s : State) (src : Nat), s.powered = true → src ≠ s.link.station →
    (∀ h : HoldingsFrame,
      (s.link.dispatchOpen = false ∨ 5 < h.lane ∨ h.date.valid = false →
        exec (.holdingsReceived src h) s = .next s) ∧
      (s.link.dispatchOpen = true → h.lane ≤ 5 → h.date.valid = true →
        ∃ u : State, exec (.holdingsReceived src h) s = .next u.settle ∧
          EntrySet s.credit.roster u.credit.roster src (some h) ∧
          EntrySet s.credit.mirror u.credit.mirror src
            (if h.askRemaining = 0 then none else lookup s.credit.mirror src) ∧
          u.rate.highestHeard =
            (if h.currentGen = 0 then s.rate.highestHeard
              else some (max h.currentGen (s.rate.highestHeard.getD 0))) ∧
          (u.rate.ratesBehind = true ↔
            ∃ n, u.rate.highestHeard = some n ∧ s.rate.currentGen < n) ∧
          u.rate.bankA = s.rate.bankA ∧ u.rate.bankB = s.rate.bankB ∧
          (h.fresh = true → s.pacing.lane ≠ .offLine → s.link.sending .holdings = false →
            u.link.full .holdings = true) ∧
          u.funds = s.funds ∧ u.track = s.track ∧ u.status = s.status ∧ u.pacing = s.pacing ∧
          u.clock = s.clock ∧ u.credit.ask = s.credit.ask)) ∧
    (∀ amount : Nat,
      (s.link.dispatchOpen = false ∨ s.pacing.settings = none ∨ amount = 0 ∨ 99999999 < amount →
        exec (.creditAskReceived src amount) s = .next s) ∧
      (∀ g, s.link.dispatchOpen = true → s.pacing.settings = some g → 1 ≤ amount → amount ≤ 99999999 →
        ∃ mirror, exec (.creditAskReceived src amount) s = .next (State.lendingTest
            { s with credit := { s.credit with mirror := mirror } }) ∧
          EntrySet s.credit.mirror mirror src (some { remaining := amount, timer := g.askTimeout }))) ∧
    ∀ (dest passage amount purpose : Nat) (ackSeen : Bool),
      let sound : Prop := passage ≠ 0 ∧ 1 ≤ amount ∧ amount ≤ 99999999 ∧ (purpose = 1 ∨ purpose = 2)
      let frame : Instr := .lotPassHeard src dest passage amount purpose ackSeen
      (s.link.dispatchOpen = false ∨ ackSeen = false ∨ ¬ sound ∨ lookup s.credit.mirror dest = none →
        exec frame s = .next s) ∧
      (∀ m, s.link.dispatchOpen = true → ackSeen = true → sound → lookup s.credit.mirror dest = some m →
        ∃ mirror, exec frame s = .next (State.lendingTest
            { s with credit := { s.credit with mirror := mirror } }) ∧
          EntrySet s.credit.mirror mirror dest
            (if m.remaining ≤ amount then none else some { m with remaining := m.remaining - amount }))) ∧
  (∀ (s : State) (src : Nat), s.powered = true → src = s.link.station → 1 ≤ src → src ≤ 14 →
    (∀ h : HoldingsFrame,
      ∃ t : State, exec (.holdingsReceived src h) s = .next t ∧ DuplicateRaised s t ∧
        t.credit.roster = s.credit.roster ∧
        (s.link.dispatchOpen = true → h.lane ≤ 5 → h.date.valid = true →
          t.rate.highestHeard =
            (if h.currentGen = 0 then s.rate.highestHeard
              else some (max h.currentGen (s.rate.highestHeard.getD 0))))) ∧
    (∀ amount : Nat,
      ∃ t : State, exec (.creditAskReceived src amount) s = .next t ∧ DuplicateRaised s t ∧
        t.credit.mirror = s.credit.mirror) ∧
    ∀ (dest passage amount purpose : Nat) (ackSeen : Bool),
      ∃ t : State, exec (.lotPassHeard src dest passage amount purpose ackSeen) s = .next t ∧
        DuplicateRaised s t) ∧
  ∀ s : State, s.powered = true →
    exec .frameDamaged s = .next
      { s with
        link := { s.link with checkErrors := min 255 (s.link.checkErrors + 1) },
        status := s.status.raise .linkCheck } ∧
    ∀ (src : Nat) (own : Bool),
      (src ≠ s.link.station ∨ src = 0 ∨ 14 < src →
        exec (.frameDisregarded ⟨src, own⟩) s = .next (acked s own false)) ∧
      (src = s.link.station → 1 ≤ src → src ≤ 14 →
        ∃ u : State, exec (.frameDisregarded ⟨src, own⟩) s = .next u.settle ∧
          u.link.ack = ackAfter s own false ∧ u.link.duplicate = true ∧ u.link.mute = true ∧ u.link.attempt = none ∧
          (∀ i, i ≠ .holdings → u.link.full i = false) ∧ (∀ i, u.link.offers i = false) ∧
          u.status.holds 2 = true ∧ u.credit.ask = none ∧ u.credit.remit = none ∧
          u.funds.store = s.funds.store ∧ u.clock = s.clock ∧
          (s.pacing.lane = .offLine ∨ s.pacing.lane = .stopped → u.pacing.lane = s.pacing.lane) ∧
          (s.pacing.lane ≠ .offLine → s.pacing.lane ≠ .stopped →
            u.pacing.lane = .stopped ∧ u.track.records = [] ∧ u.track.notes = [] ∧
              u.weigh.platform = []))

/-- A LOT PASS addressed to this station is claimed as LOT IN when its purpose test passes, the acknowledge
waiting on the answer. A PASS QUERY is taken in hand and judged against the settled entry of its sender. A
PASS ANSWER is acknowledged, and claimed as LOT OUT END when it names the outbound passage and none is
claimed. A frame not taken leaves its acknowledge undriven. A LOT PASS while another link claim is
outstanding is not taken (the model's choice, log 27). With the station's own number as its source each raises
DUPLICATE STATION, and the station, MUTE by then, does not acknowledge it (log 16). -/
def Obligations.PassageFramesJudged : Prop :=
  (∀ (s : State) (src passage : Nat), s.powered = true → src = s.link.station → 1 ≤ src → src ≤ 14 →
    (∀ amount purpose : Nat,
      ∃ t : State, exec (.lotPassReceived src passage amount purpose) s = .next t ∧
        DuplicateRaised s t ∧ t.link.ack = .released) ∧
    (∃ t : State, exec (.passQueryReceived src passage) s = .next t ∧ DuplicateRaised s t ∧
      t.link.ack = .released) ∧
    ∀ outcome : Nat, ∃ t : State, exec (.passAnswerReceived src passage outcome) s = .next t ∧
      DuplicateRaised s t ∧ t.link.ack = .released) ∧
  ∀ (s : State) (src passage : Nat), s.powered = true → src ≠ s.link.station →
    let untaken : Host.Outcome State Fault Refusal := .next (acked s true false)
    let driven : State := acked s true true
    (∀ amount purpose : Nat,
      let frame : Instr := .lotPassReceived src passage amount purpose
      let sound : Prop := passage ≠ 0 ∧ 1 ≤ amount ∧ amount ≤ 99999999 ∧
        (purpose = 2 ∨ (purpose = 1 ∧ s.credit.ask ≠ none))
      let claim : Claim := .lotIn src passage amount
      let waiting : State := { s with link := { s.link with ack := .pending } }
      (¬ Takes s true ∨ ¬ sound ∨ s.funds.arbiter.linkBusy = true → exec frame s = untaken) ∧
      (Takes s true → sound → s.funds.arbiter.linkBusy = false →
        (s.funds.arbiter.idle = true → s.verdict claim = .write →
          exec frame s = .next (State.settle
            { waiting with
              funds := { s.funds with arbiter := { s.funds.arbiter with writing := some claim } } })) ∧
        (s.funds.arbiter.idle = false →
          exec frame s = .next (State.settle
            { waiting with
              funds := { s.funds with arbiter := { s.funds.arbiter with link := some claim } } })) ∧
        (∀ reason, s.funds.arbiter.idle = true → s.verdict claim = .refused reason →
          ∃ t : State, exec frame s = .next t ∧ t.link.ack = .released ∧
            t.funds.store = s.funds.store ∧ t.status = s.status))) ∧
    (let e := s.funds.store.settledOf src
      let taken : Prop := Takes s true ∧ passage ≠ 0 ∧ s.credit.inHand = none ∧
        s.link.slots.passAnswer.req = none
      (¬ taken → exec (.passQueryReceived src passage) s = untaken) ∧
      (taken →
        (∀ o, passage = e.number → e.outcome = some o → s.link.sending .passAnswer = false →
          exec (.passQueryReceived src passage) s = .next (State.settle
            { s with link := { s.link with
              slots := { s.link.slots with passAnswer := .holding (.passAnswer src passage o) },
              ack := ackAfter s true true } })) ∧
        (passage < e.number →
          exec (.passQueryReceived src passage) s = .next (State.settle
            { driven with status := s.status.raise (.queryStale src passage) })) ∧
        (e.number < passage →
          let held : State :=
            { driven with credit := { s.credit with inHand := some { sender := src, passage := passage } } }
          let claim : Claim := .settleNotTaken src passage
          (s.funds.arbiter.idle = true → s.funds.storeFault = false →
            exec (.passQueryReceived src passage) s = .next (State.settle
              { held with
                funds := { s.funds with arbiter := { s.funds.arbiter with writing := some claim } } })) ∧
          (s.funds.arbiter.idle = false ∨ s.funds.storeFault = true →
            exec (.passQueryReceived src passage) s = .next (State.settle
              { held with
                funds := { s.funds with arbiter :=
                  { s.funds.arbiter with credit := s.funds.arbiter.credit ++ [claim] } } }))))) ∧
    (∀ outcome : Nat, ¬ Takes s true ∨ outcome = 0 ∨ 2 < outcome →
      exec (.passAnswerReceived src passage outcome) s = untaken) ∧
    ∀ (outcome : Nat) (o : PassOutcome), Takes s true →
      (outcome = 1 ∧ o = .taken) ∨ (outcome = 2 ∧ o = .notTaken) →
      let claim : Claim := .lotOutEnd passage o
      let named : Prop := s.funds.store.outbound.map Passage.number = some passage ∧
        ∀ x ∈ s.funds.arbiter.writing.toList ++ s.funds.arbiter.credit, ∀ y, x ≠ .lotOutEnd passage y
      (¬ named → exec (.passAnswerReceived src passage outcome) s = .next driven) ∧
      (named → s.funds.arbiter.idle = true → s.verdict claim = .write →
        exec (.passAnswerReceived src passage outcome) s = .next (State.settle
          { driven with
            funds := { s.funds with arbiter := { s.funds.arbiter with writing := some claim } } })) ∧
      (named → s.funds.arbiter.idle = false ∨ s.verdict claim ≠ .write →
        exec (.passAnswerReceived src passage outcome) s = .next (State.settle
          { driven with
            funds := { s.funds with arbiter :=
              { s.funds.arbiter with credit := s.funds.arbiter.credit ++ [claim] } } }))

/-- A heard DAY TURN: held back by an update, disregarded with an invalid clock or date, and otherwise judged
against the station's own date and time. With the station's own number as its source it raises DUPLICATE STATION,
and is dispatched after it (log 16). -/
def Obligations.DayTurnJudgedAgainstOwnDate : Prop :=
  (∀ (s : State) (d : Date), s.powered = true → 1 ≤ s.link.station → s.link.station ≤ 14 →
    ∃ t : State, exec (.dayTurnReceived s.link.station d) s = .next t ∧ DuplicateRaised s t ∧
      (s.link.dispatchOpen = false → t.clock = s.clock) ∧
      (s.link.dispatchOpen = true → s.clock.updating = true →
        t.clock = { s.clock with held := s.clock.held ++ [.dayTurn d] }) ∧
      (s.link.dispatchOpen = true → s.clock.updating = false → s.clock.invalid = false →
        d.valid = true → t.clock.heardTurn = some d)) ∧
  ∀ (s : State) (src : Nat) (d : Date), s.powered = true → src ≠ s.link.station →
    (s.link.dispatchOpen = false → exec (.dayTurnReceived src d) s = .next s) ∧
    (s.link.dispatchOpen = true → s.clock.updating = true →
      exec (.dayTurnReceived src d) s = .next
        { s with clock := { s.clock with held := s.clock.held ++ [.dayTurn d] } }) ∧
    (s.link.dispatchOpen = true → s.clock.updating = false →
      ∃ u : State, exec (.dayTurnReceived src d) s = .next u.settle ∧ TurnJudged s u d)

/-- The idle timer asks for a HUSH; a HUSH heard or sent opens an objection window; a HOLD heard or sent or a
WAKE heard voids it; its end passes an idle lane without objection to QUIET, and otherwise withdraws the HOLD
and asks for a WAKE; a WAKE heard wakes a QUIET lane. Either change of lane state brings what R152 says
(logs 33, 59). Each with the station's own number as its source raises DUPLICATE STATION (log 16). What a station does
at the window's end when it is not idle, and that a void hush leaves a HOLD of its own in its slot, are the model's
choices (logs 22, 58). -/
def Obligations.HushAndWakeFollowRules : Prop :=
  ∀ s : State, s.powered = true →
    let opened : Pacing :=
      { s.pacing with window := some { span := 20, holdAsked := false }, idleTimer := none }
    let voided : Pacing := { s.pacing with window := none }
    (s.pacing.idleTimer = none → exec .idleTimerExpiry s = .next s) ∧
    (s.pacing.idleTimer ≠ none → s.link.sending .hush = false →
      exec .idleTimerExpiry s = .next
        { s with
          pacing := { s.pacing with idleTimer := none },
          link := { s.link with slots := { s.link.slots with hush := .holding .hush } } }) ∧
    (∀ src : Nat, src ≠ s.link.station →
      (s.link.dispatchOpen = false →
        exec (.hushReceived src) s = .next s ∧ exec (.holdReceived src) s = .next s ∧
          exec (.wakeReceived src) s = .next s) ∧
      (s.pacing.lane.moving = false ∨ s.pacing.window ≠ none → exec (.hushReceived src) s = .next s) ∧
      (s.pacing.window = none → exec (.holdReceived src) s = .next s) ∧
      (s.pacing.lane ≠ .quiet → s.pacing.window = none → exec (.wakeReceived src) s = .next s) ∧
      (s.link.dispatchOpen = true →
        (s.pacing.lane.moving = true → s.pacing.window = none → s.link.slots.hush.req = none →
          exec (.hushReceived src) s = .next (State.settle { s with pacing := opened })) ∧
        (s.pacing.lane.moving = true → s.pacing.window = none → s.link.slots.hush.req ≠ none →
          s.link.sending .hush = false →
          exec (.hushReceived src) s = .next (State.settle
            { s with
              pacing := opened,
              link := { s.link with slots := { s.link.slots with hush := .empty } } })) ∧
        (s.pacing.window ≠ none →
          exec (.holdReceived src) s = .next (State.settle { s with pacing := voided })) ∧
        (s.pacing.lane ≠ .quiet → s.pacing.window ≠ none →
          exec (.wakeReceived src) s = .next (State.settle { s with pacing := voided })) ∧
        (s.pacing.lane = .quiet →
          ∃ u : State, exec (.wakeReceived src) s = .next u.settle ∧ LaneEntered s u .running ∧
            u.link.ack = s.link.ack))) ∧
    (1 ≤ s.link.station → s.link.station ≤ 14 →
      (∃ t : State, exec (.hushReceived s.link.station) s = .next t ∧ DuplicateRaised s t) ∧
      (∃ t : State, exec (.holdReceived s.link.station) s = .next t ∧ DuplicateRaised s t) ∧
      ∃ t : State, exec (.wakeReceived s.link.station) s = .next t ∧ DuplicateRaised s t) ∧
    (s.pacing.window = none → exec .objectionWindowEnd s = .next s) ∧
    ∀ w, s.pacing.window = some w →
      let held : Prop := s.link.slots.hold.req ≠ none ∨
        (∃ a, s.link.report = some a ∧ a.slot = .hold) ∨ w.holdAsked = true
      let idle : Prop := s.pacing.lane = .running ∧ s.track.records = [] ∧ s.track.notes = [] ∧
        s.pacing.button = false
      (idle → ¬ held →
        ∃ u : State, exec .objectionWindowEnd s = .next u.settle ∧ LaneEntered s u .quiet ∧
          u.link.ack = s.link.ack) ∧
      (¬ idle ∨ held →
        ∃ u : State, exec .objectionWindowEnd s = .next u.settle ∧ u.pacing = voided ∧
          KeptByLane s u ∧
          (s.link.sending .hold = false → u.link.slots.hold.req = none) ∧
          (s.link.sending .wake = false → u.link.slots.wake = .holding .wake))

/-! ### Transmission -/

/-- The head of a STATUS: page, lane state and marks, throttle factor, condition mask, fault mask, leading fault, clock
flag (R167, R170, R174). The bits that R174 does not name are sent as 0 (log 51). -/
def Sys2Proof.Machine.StatusHead (s : State) (page : Nat) (head : List Byte) : Prop :=
  ∃ second conditions faults leading flag : Nat,
    head = be 1 page ++ be 1 second ++ be 1 s.throttleFactor ++ be 2 conditions ++ be 3 faults ++
      be 1 leading ++ be 1 flag ∧
    second = s.pacing.lane.code + (if s.print.headReady then 16 else 0) +
      (if s.pacing.settings.isSome then 32 else 0) ∧
    (∀ n, conditions.testBit n =
      ([s.funds.storeFault, s.link.duplicate, s.link.mute, s.print.headFault, s.clock.invalid,
        s.clock.disagree, s.weigh.scaleZero, s.link.stuck, s.credit.passUnresolved,
        s.credit.creditShort, s.rate.ratesBehind][n]?).getD false) ∧
    (∀ n, 1 ≤ n → faults.testBit (n - 1) = s.status.holds n) ∧
    (s.status.faults = [] → leading = 0) ∧
    (∀ f rest, s.status.faults = f :: rest → leading = f.order) ∧
    (s.clock.latchReported = false → (s.clock.latch = .kept → flag = 1) ∧ (s.clock.latch = .lost → flag = 2)) ∧
    (s.clock.latchReported = true →
      (s.clock.invalid = false → flag = 3) ∧ (s.clock.invalid = true → flag = 4))

/-- The detail of the fault of an order, zeros while it is not held (R166, R174). -/
def Sys2Proof.Machine.DetailOf (s : State) (order zeros : Nat) (detail : List Byte) : Prop :=
  (s.status.fault? order = none → detail = be zeros 0) ∧
  ∀ f, s.status.fault? order = some f →
    (∀ eye tag, f = .jam eye tag → detail = be 1 eye.code ++ be 1 tag) ∧
    (∀ eye, f = .strayPiece eye → detail = be 1 eye.code) ∧
    (∀ piece cause, f = .headFault piece cause → detail = be 4 piece ++ be 1 cause.code) ∧
    (∀ sender passage, f = .queryStale sender passage → detail = be 1 sender ++ be 4 passage) ∧
    (∀ heard own time, f = .clockDisagree heard own time →
      detail = dateBytes heard ++ dateBytes own ++ timeBytes time) ∧
    (∀ n, f = .journalWrap n → detail = be 4 n) ∧
    (∀ serial reason, f = .refillRefused serial reason → detail = be 2 serial ++ be 1 reason.code) ∧
    (∀ dest amount, f = .remitIncomplete dest amount → detail = be 1 dest ++ be 4 amount) ∧
    (∀ reason, f = .loadFailed reason → detail = be 1 reason.code) ∧
    (∀ field, f = .settleRefused field → detail = be 1 field)

/-- What follows the head on each page of a STATUS (R167, R174). With no passage its destination and amount, and before
a SETTLE the line id, are sent as 0 (log 50). -/
def Sys2Proof.Machine.StatusPage (s : State) (page : Nat) (body : List Byte) : Prop :=
  let st := s.funds.store
  let bank (b : Bank) : List Byte :=
    be 1 b.state.code ++ be 2 (if b.state = .free then 0 else b.generation.getD 0)
  (page = 0 →
    body = be 4 st.available ++ be 4 s.funds.reserved ++ be 5 st.ascending ++ be 4 st.pieceCount ++
      be 7 st.refillsTotal ++ be 2 st.refillSerial ++
      (match st.outbound with
        | some p => be 4 p.number ++ be 1 p.dest ++ be 4 p.amount ++ be 1 p.purpose.code
        | none => be 10 0)) ∧
  (page = 1 →
    body = be 2 ((s.pacing.settings.map Settings.lineId).getD 0) ++ be 1 s.link.checkErrors ++
      be 2 s.track.feedMisses ++ be 2 s.weigh.unboundBar ++ be 2 s.track.diverted ++
      be 4 s.print.franked ++
      (match st.lastCommit with
        | some c => be 4 c.piece ++ be 3 c.postage ++ be 4 c.journal
        | none => be 4 0 ++ be 3 0xFFFFFF ++ be 4 0) ++
      dateBytes s.clock.date ++ timeBytes s.clock.time ++ be 1 s.clock.postdate) ∧
  (page = 2 →
    ∃ load jam stray head settle wrap : List Byte,
      body = bank s.rate.bankA ++ bank s.rate.bankB ++ load ++
        be 4 ((st.ring.head?.map Placed.number).getD 0) ++
        be 4 ((st.ring.getLast?.map Placed.number).getD 0) ++ be 4 s.status.readMarker ++
        jam ++ stray ++ head ++ settle ++ wrap ∧
      DetailOf s 18 1 load ∧ DetailOf s 7 2 jam ∧ DetailOf s 8 1 stray ∧ DetailOf s 9 5 head ∧
      DetailOf s 19 1 settle ∧ DetailOf s 14 4 wrap) ∧
  (page = 3 →
    ∃ query disagree refill remit : List Byte,
      body = query ++ disagree ++ refill ++ remit ∧ DetailOf s 6 5 query ∧ DetailOf s 11 9 disagree ∧
      DetailOf s 15 3 refill ∧ DetailOf s 16 5 remit)

/-- The bytes of each kind of journal entry (R174): with no note held the class code and zone are 0. -/
def Sys2Proof.Machine.EntryLayouts : Prop :=
  let classZone (f : PieceFacts) : List Byte :=
    match f.note with
    | some n => be 1 n.classCode ++ be 1 n.zone
    | none => be 2 0
  let mark (f : PieceFacts) : Nat :=
    match f.note with
    | some n => if n.isDefault then 1 else 0
    | none => 0
  let held (f : PieceFacts) : Nat :=
    match f.note with
    | none => 0
    | some n => if n.isDefault then 2 else 1
  let postage (f : PieceFacts) : List Byte := shown 3 0xFFFFFF f.postage
  let lot (partner purpose amount : Nat) : List Byte := be 4 (partner * 2 ^ 28 + purpose * 2 ^ 27 + amount)
  let purposeBit (p : Purpose) : Nat := match p with | .ask => 0 | .remit => 1
  (∀ (tag piece : Nat) (f : PieceFacts),
    (Entry.committed tag piece f).bytes = be 1 1 ++ be 1 tag ++ be 4 piece ++ postage f ++
      shown 2 0 f.weight ++ classZone f ++ be 1 (mark f) ++ shown 2 0 f.generation ++
      shownDate f.printed) ∧
  (∀ (tag : Nat) (piece : Option Nat) (cause : SpoilCause) (f : PieceFacts),
    (Entry.spoiled tag piece cause f).bytes = be 1 2 ++ be 1 tag ++ shown 4 0 piece ++ be 1 cause.code ++
      postage f ++ shown 2 0 f.weight ++ classZone f ++ shown 2 0 f.generation ++ shownDate f.printed) ∧
  (∀ (tag : Nat) (cause : PassCause) (f : PieceFacts),
    (Entry.passedUnprinted tag cause f).bytes = be 1 3 ++ be 1 tag ++ be 1 cause.code ++ postage f ++
      shown 2 0 f.weight ++ classZone f ++ shown 2 0 f.generation ++ shownDate f.printed) ∧
  (∀ (tag : Nat) (reason : DivertReason) (f : PieceFacts),
    (Entry.diverted tag reason f).bytes = be 1 4 ++ be 1 tag ++ be 1 reason.code ++
      be 1 (match reason with | .weighFail sub => sub.code | _ => 0) ++ be 1 (held f) ++
      shown 2 0 f.weight ++ classZone f ++ postage f ++ shown 2 0 f.generation) ∧
  (∀ (tag : Nat) (f : PieceFacts),
    (Entry.abandoned tag f).bytes = be 1 5 ++ be 1 tag ++ be 1 (held f) ++ shown 2 0 f.weight ++
      classZone f ++ postage f ++ shown 2 0 f.generation ++ shownDate f.printed) ∧
  (∀ (piece charged journal : Option Nat) (debits : Nat),
    (Entry.unconfirmed piece charged journal debits).bytes = be 1 6 ++ shown 4 0 piece ++
      shown 3 0xFFFFFF charged ++ shown 4 0 journal ++ be 4 debits) ∧
  (∀ serial amount : Nat, (Entry.refill serial amount).bytes = be 1 7 ++ be 2 serial ++ be 4 amount) ∧
  (∀ partner passage amount : Nat,
    (Entry.lotIn partner passage amount).bytes = be 1 8 ++ be 4 passage ++ lot partner 0 amount) ∧
  (∀ (partner passage amount : Nat) (p : Purpose),
    (Entry.lotOut partner passage amount p).bytes =
        be 1 9 ++ be 4 passage ++ lot partner (purposeBit p) amount ∧
      (Entry.lotReturned partner passage amount p).bytes =
        be 1 10 ++ be 4 passage ++ lot partner (purposeBit p) amount) ∧
  (∀ (new : Nat) (replaced : Option Nat) (date : Date),
    (Entry.bankSwitch new replaced date).bytes = be 1 11 ++ be 2 new ++ shown 2 0 replaced ++
      shownDate (some date)) ∧
  ∀ (date replaced : Date) (time : TimeOfDay),
    (Entry.dateSet date time replaced).bytes = be 1 12 ++ shownDate (some date) ++ be 1 time.hour ++
      be 1 time.minute ++ be 1 time.second ++ shownDate (some replaced)

/-- The codes of lane states, bank states, purposes, outcomes and eyes, of the causes and the reasons (R170). -/
def Sys2Proof.Machine.CodesNumbered : Prop :=
  [Lane.offLine, .ready, .running, .draining, .quiet, .stopped].map Lane.code = [0, 1, 2, 3, 4, 5] ∧
  (∀ p, [BankState.free, .loading p, .pending, .current, .retiring].map BankState.code = [0, 1, 2, 3, 4]) ∧
  [Purpose.ask, .remit].map Purpose.code = [1, 2] ∧
  [PassOutcome.taken, .notTaken].map PassOutcome.code = [1, 2] ∧
  [Eye.infeed, .print, .exit].map Eye.code = [1, 2, 3] ∧
  (∀ sub, [DivertReason.noNote, .weighFail sub, .noDimensions, .noRates, .noClass, .overLimit, .badZone,
      .notOffered, .overMaximum, .clock, .notRated, .noFunds, .headFault, .drain, .datePassed].map
      DivertReason.code = [1, 2, 3, 4, 5, 6, 7, 8, 9, 10, 11, 12, 13, 14, 15]) ∧
  [WeighSub.zero, .overweight, .unsteady, .shortWindow, .overlong].map WeighSub.code = [1, 2, 3, 4, 5] ∧
  [PassCause.headFault, .clock, .datePassed, .headNotReady, .full, .store].map PassCause.code =
    [1, 2, 3, 4, 5, 6] ∧
  [SpoilCause.headFault, .clock, .datePassed, .notReady, .noPrint, .printFault .inkOut,
      .printFault .headJam, .printFault .overTemperature, .noAnswer, .stopped].map SpoilCause.code =
    [1, 2, 3, 7, 8, 9, 10, 11, 12, 13] ∧
  [HeadFaultCause.head .inkOut, .head .headJam, .head .overTemperature, .noAnswer, .notReady].map
      HeadFaultCause.code = [1, 2, 3, 4, 5] ∧
  [LoadReason.field, .loadingBusy, .pendingHeld, .noFreeBank, .generation, .clock, .effectiveDate,
      .notLoading, .segmentMissing, .tooMany, .duplicateClass, .order, .check, .incomplete, .journal,
      .inUse, .isProtected, .noSuchBank].map LoadReason.code =
    [1, 2, 3, 4, 5, 6, 7, 8, 9, 10, 11, 12, 13, 14, 15, 16, 17, 18] ∧
  [RefillReason.state, .field, .serial, .capacity, .store, .full].map RefillReason.code =
    [1, 2, 3, 4, 5, 6]

/-- The bytes of journal entries together. -/
def Sys2Proof.Machine.entriesLength (l : List Placed) : Nat := (l.map (fun e => e.entry.bytes.length)).sum

/-- POLL is queued in an empty reply slot, MUTE or not, and acknowledged unless MUTE; JOURNAL READ is queued in an
empty reply slot while STORE FAULT is not current; otherwise neither changes anything. The gap of each class; the frame
that begins when it runs out, with its content fixed the first time; what a HOLDINGS, each page of a STATUS (logs 50,
51) and a JOURNAL say, a JOURNAL as many entries from its number on as fit, at most four and 36 bytes; deferral clears
the yield flags of the classes with a frame waiting; a cut-off leaves the frame in its slot, as changed during the
attempt, and one that empties the passage slot lets a waiting step of a remit (log 42) or a lender's LOT PASS be
placed; the yield timeout clears every flag; LINK STUCK is current between its two ends. The guard of the gap is the
model's reading (log 19). The journal entries have the layouts of R174, and the codes are numbered by R170. -/
def Obligations.FramesBegunDeferredAndCutOff : Prop :=
  EntryLayouts ∧ CodesNumbered ∧
  (∀ l : Link,
    l.gapOf .urgent = 2 + l.station + (if l.yieldUrgent then 16 else 0) ∧
      l.gapOf .credit = 20 + l.station + (if l.yieldCredit then 16 else 0) ∧
      l.gapOf .routine = 40 + l.station + (if l.yieldRoutine then 16 else 0)) ∧
  (∀ s : State, ∀ fresh : Bool,
    s.content (.holdings fresh) = some (0, .holdings
      { fresh := fresh, lane := s.pacing.lane.code, available := s.funds.store.available,
        reserved := s.funds.reserved, outbound := s.funds.store.outboundAmount,
        currentGen := s.rate.currentGen, pendingGen := s.rate.pendingGen,
        askRemaining := (match s.credit.ask with | some a => a.remaining | none => 0),
        date := s.clock.date })) ∧
  (∀ (s : State) (page : Nat), ∃ head body : List Byte,
    s.content (.status page) = some (15, .status page (head ++ body)) ∧ StatusHead s page head ∧
      StatusPage s page body) ∧
  (∀ (s : State) (n : Nat),
    let ring := s.funds.store.ring
    let held := ring.filter (fun e => decide (n ≤ e.number))
    ∃ k : Nat, k ≤ 4 ∧ k ≤ held.length ∧ entriesLength (held.take k) ≤ 36 ∧
      (k = 4 ∨ k = held.length ∨ 36 < entriesLength (held.take (k + 1))) ∧
      s.content (.journal n) = some (15, .journal n (ring.head?.map Placed.number)
        (ring.getLast?.map Placed.number) (held.take k))) ∧
  ∀ s : State, s.powered = true →
    let free : Prop := s.link.dispatchOpen = true ∧ s.link.stuck = false ∧ s.link.attempt = none ∧
      s.link.report = none
    let offered (i : SlotId) : Prop := ∃ q, (s.link.slots.get i).req = some q ∧
      (s.link.mute = false ∨ ∃ page, q = .status page)
    let order : List SlotId :=
      [.hold, .wake, .dayTurn, .passAnswer, .passage, .creditAsk, .reply, .holdings, .hush]
    (∀ page : Nat,
      let taken : Prop := s.link.dispatchOpen = true ∧ 1 ≤ s.link.station ∧ s.link.station ≤ 14 ∧
        page ≤ 3 ∧ s.link.slots.reply.req = none
      (¬ taken → exec (.poll page) s = .next (acked s true false)) ∧
      (taken → s.link.sending .reply = false →
        exec (.poll page) s = .next
          { s with link := { s.link with
            slots := { s.link.slots with reply := .holding (.status page) },
            ack := ackAfter s true true } })) ∧
    (∀ n : Nat,
      let taken : Prop := Takes s true ∧ n ≠ 0 ∧ s.link.slots.reply.req = none ∧
        s.funds.storeFault = false
      (¬ taken → exec (.journalRead n) s = .next (acked s true false)) ∧
      (taken → s.link.sending .reply = false →
        exec (.journalRead n) s = .next
          { s with link := { s.link with
            slots := { s.link.slots with reply := .holding (.journal n) },
            ack := ackAfter s true true } })) ∧
    (¬ free → exec .gapExpiry s = .next s ∧ exec .defer s = .next s) ∧
    ((∀ i, ¬ offered i) → exec .gapExpiry s = .next s) ∧
    (∀ (before later : List SlotId) (i : SlotId) (q : Req), free → order = before ++ i :: later →
      (∀ j ∈ before, ¬ offered j) → offered i → (s.link.slots.get i).req = some q →
      (s.content q = none → exec .gapExpiry s = .next s) ∧
      ∀ (dest : Nat) (fresh : Msg), s.content q = some (dest, fresh) →
        let msg : Msg := match (s.link.slots.get i).fixed with | some m => m | none => fresh
        exec .gapExpiry s = .next
          { s with link := { s.link with
            slots := s.link.slots.put i { s.link.slots.get i with fixed := some msg },
            attempt := some { slot := i, dest := dest, msg := msg, gap := s.link.gapOf i.cls } } }) ∧
    (∀ purpose, s.content (.lotPass purpose .waiting) = none ∧
      s.content (.lotPass purpose .claimed) = none) ∧
    (free →
      ∃ t : State, exec .defer s = .next t ∧
        t = { s with link := { s.link with
          yieldUrgent := t.link.yieldUrgent, yieldCredit := t.link.yieldCredit,
          yieldRoutine := t.link.yieldRoutine } } ∧
        ∀ c, ((∃ i, i.cls = c ∧ offered i) → t.link.yields c = false) ∧
          ((∀ i, i.cls = c → ¬ offered i) → t.link.yields c = s.link.yields c)) ∧
    exec .yieldTimeout s = .next
      { s with link := { s.link with yieldUrgent := false, yieldCredit := false, yieldRoutine := false } } ∧
    (s.link.attempt = none → exec .arbitrationLoss s = .next s) ∧
    (∀ a, s.link.attempt = some a →
      let cut : Slot :=
        match (s.link.slots.get a.slot).later with
        | none => s.link.slots.get a.slot
        | some none => .empty
        | some (some r) => .holding r
      let left : Slot :=
        if a.slot = .passage ∧ cut.req = none then
          if s.credit.remit ≠ none ∧ s.funds.store.outbound = none then .holding (.lotPass .remit .waiting)
          else if s.lendingHolds = true then .holding (.lotPass .ask .waiting)
          else cut
        else cut
      exec .arbitrationLoss s = .next (State.settle
        { s with link := { s.link with attempt := none, slots := s.link.slots.put a.slot left } })) ∧
    exec .linkStuck s = .next
      { s with link := { s.link with stuck := true }, status := s.status.raise .linkStuck } ∧
    exec .linkStuckEnd s = .next { s with link := { s.link with stuck := false } }

/-- The report commands and the frames they report (R117). -/
def Sys2Proof.Machine.reports : Instr → Msg → Prop
  | .lotPassSent _, m => ∃ n amount p, m = .lotPass n amount p
  | .passQuerySent, m => ∃ n, m = .passQuery n
  | .hushSent, m => m = .hush
  | .holdSent, m => m = .hold
  | .statusSent, m => ∃ page payload, m = .status page payload
  | .journalSent, m => ∃ n oldest newest entries, m = .journal n oldest newest entries
  | _, _ => False

/-- A frame sent empties its slot and sets the yield flag of its class, and every other slot stands as it was;
in the passage slot that lets a waiting step of a remit (log 42) or a lender's LOT PASS be placed. Its report does what
its block does on it: LOT OUT END TAKEN or the query timer, the query count, the objection window, the void hush with a
WAKE, the latch-reported mark, the read marker, which the newest number of the reply bounds (log 46). A report that
finds its frame's attempt still in progress does what FRAME_SENT does first (the model's choice, log 17). -/
def Obligations.FramesSentAndReported : Prop :=
  ∀ s : State, s.powered = true →
    (s.link.attempt = none → exec .frameSent s = .next s) ∧
    (∀ a, s.link.attempt = some a →
      ∃ t : State, exec .frameSent s = .next t ∧ t = { s with link := t.link } ∧ t.link.attempt = none ∧
        t.link.yields a.slot.cls = true ∧ (∀ c, c ≠ a.slot.cls → t.link.yields c = s.link.yields c) ∧
        (∀ j, j ≠ a.slot → t.link.slots.get j = s.link.slots.get j) ∧
        (let step : Prop := s.credit.remit ≠ none ∧ s.funds.store.outbound = none;
          (a.slot ≠ .passage ∨ (¬ step ∧ s.lendingHolds = false) → t.link.full a.slot = false) ∧
          (a.slot = .passage → step → t.link.slots.passage = .holding (.lotPass .remit .waiting)) ∧
          (a.slot = .passage → ¬ step → s.lendingHolds = true →
            t.link.slots.passage = .holding (.lotPass .ask .waiting))) ∧
        (t.link.report = some a ∨ (t.link.report = none ∧ ∀ c, ¬ reports c a.msg)) ∧
        ∀ c, reports c a.msg → exec c s = exec c t) ∧
    (∀ c, (∃ m, reports c m) → s.link.attempt = none → s.link.report = none → exec c s = .next s) ∧
    ∀ a, s.link.attempt = none → s.link.report = some a →
      let reported : Link := { s.link with report := none }
      (∀ n amount p, a.msg = .lotPass n amount p →
        (s.funds.store.outbound.map Passage.number = some n → s.credit.query = none →
          s.link.mute = false → s.funds.storeFault = false →
          exec (.lotPassSent false) s = .next
            { s with
              link := reported,
              credit := { s.credit with query := some { timer := some 500, count := 0 } } }) ∧
        ∃ u : State, exec (.lotPassSent true) s = .next u.settle ∧ u.link.report = none ∧
          u.funds.store = s.funds.store ∧ u.status = s.status ∧ u.track = s.track ∧
          u.pacing = s.pacing ∧
          (s.funds.arbiter.idle = true → s.verdict (.lotOutEnd n .taken) = .write →
            u.funds.arbiter = { s.funds.arbiter with writing := some (.lotOutEnd n .taken) }) ∧
          (s.funds.arbiter.idle = false ∨ s.verdict (.lotOutEnd n .taken) ≠ .write →
            u.funds.arbiter =
              { s.funds.arbiter with credit := s.funds.arbiter.credit ++ [.lotOutEnd n .taken] }) ∧
          (∀ m, lookup s.credit.mirror a.dest = some m →
            EntrySet s.credit.mirror u.credit.mirror a.dest
              (if m.remaining ≤ amount then none
                else some { m with remaining := m.remaining - amount })) ∧
          (lookup s.credit.mirror a.dest = none → u.credit = s.credit)) ∧
      (∀ n q, a.msg = .passQuery n → s.credit.query = some q →
        exec .passQuerySent s = .next
          { s with
            link := reported,
            credit := { s.credit with query := some { q with count := q.count + 1 } } }) ∧
      (a.msg = .hush →
        (s.pacing.lane.moving = true → s.pacing.window = none →
          exec .hushSent s = .next (State.settle
            { s with
              link := reported,
              pacing := { s.pacing with
                window := some { span := 20, holdAsked := false }, idleTimer := none } })) ∧
        (s.pacing.lane.moving = false ∨ s.pacing.window ≠ none →
          exec .hushSent s = .next (State.settle { s with link := reported }))) ∧
      (a.msg = .hold →
        exec .holdSent s = .next (State.settle
          { s with
            link := { reported with slots := { s.link.slots with wake := .holding .wake } },
            pacing := { s.pacing with window := none } })) ∧
      (∀ page payload, a.msg = .status page payload →
        exec .statusSent s = .next
          { s with link := reported, clock := { s.clock with latchReported := true } }) ∧
      ∀ n oldest newest entries, a.msg = .journal n oldest newest entries →
        exec .journalSent s = .next
          { s with
            link := reported,
            status := { s.status with
              readMarker :=
                match newest with
                | none => s.status.readMarker
                | some top =>
                  max s.status.readMarker
                    (max (match entries.getLast? with | some e => e.number | none => 0)
                      (min (n - 1) top)) } }

/-! ### Lending, asking, the timers -/

/-- The lending test, which places a LOT PASS of purpose ASK in an empty passage slot where its conditions hold and
changes nothing otherwise, the borrower chosen, one whenever an entry is eligible and the one at the lower number among those
that tie, and the turn of a LOT PASS for a borrower and for a remit; every command keeps the mirror in rising order of
station. The ask deadline, at which the ask closes and a HOLDINGS is asked for, the end of
the back-off, the mirror timer and the query timer, which raises PASS UNRESOLVED after twenty queries with no
answer received. -/
def Obligations.LotPassTurnAndCreditTimers : Prop :=
  (State.reset.mirrorRising ∧
    ∀ (c : Instr) (s t : State), s.mirrorRising → exec c s = .next t → t.mirrorRising) ∧
  ∀ s : State, s.powered = true →
    let lends : Prop := (∃ g, s.pacing.settings = some g ∧
        0 < s.funds.store.available - s.funds.reserved - g.keepAmount) ∧ s.pacing.lane ≠ .offLine ∧
      s.link.mute = false ∧ s.funds.store.outbound = none ∧ s.funds.storeFault = false ∧
      s.funds.store.nextPassage ≤ 4294967295 ∧ s.credit.ask = none ∧ s.credit.remit = none ∧
      ∃ e ∈ s.credit.mirror, s.eligible e = true
    let wanting (g : Settings) : Prop := s.pacing.settings = some g ∧ s.pacing.lane.moving = true ∧
      (s.funds.store.available - s.funds.reserved < g.lowMark ∨ s.funds.unfunded ≠ [])
    (s.lendingHolds = true ↔ lends) ∧
    (s.lendingHolds = true → s.link.slots.passage.req = none → s.link.sending .passage = false →
      s.lendingTest =
        { s with link := { s.link with slots := { s.link.slots with
          passage := .holding (.lotPass .ask .waiting) } } }) ∧
    (s.lendingHolds = false ∨ s.link.slots.passage.req ≠ none → s.lendingTest = s) ∧
    (∀ e : Nat × Mirrored, s.eligible e = true ↔ 0 < e.2.remaining ∧
      ∀ h, lookup s.credit.roster e.1 = some h → h.date = s.clock.date) ∧
    (s.chosenBorrower = none ↔ ∀ e ∈ s.credit.mirror, s.eligible e = false) ∧
    (∀ e, s.chosenBorrower = some e → e ∈ s.credit.mirror ∧ s.eligible e = true ∧
      ∀ x ∈ s.credit.mirror, s.eligible x = true →
        (∀ hx, lookup s.credit.roster x.1 = some hx → ∃ he, lookup s.credit.roster e.1 = some he ∧
          (he.available : Int) - he.reserved ≤ (hx.available : Int) - hx.reserved) ∧
        (s.mirrorRising →
          (lookup s.credit.roster x.1 = none → lookup s.credit.roster e.1 = none → e.1 ≤ x.1) ∧
          ∀ hx he, lookup s.credit.roster x.1 = some hx → lookup s.credit.roster e.1 = some he →
            (he.available : Int) - he.reserved = (hx.available : Int) - hx.reserved → e.1 ≤ x.1)) ∧
    (∀ (purpose : Purpose), s.link.mayBegin = true → s.link.nextSlot = some .passage →
      s.link.slots.passage.req = some (.lotPass purpose .waiting) →
      let claims (dest amount : Nat) : Prop :=
        ∃ u : State, exec .lotPassTurn s = .next u.settle ∧
          u = { s with
            link := { s.link with slots := { s.link.slots with
              passage := .holding (.lotPass purpose .claimed) } },
            funds := { s.funds with arbiter := u.funds.arbiter } } ∧
          (s.funds.arbiter.idle = true → s.verdict (.lotOutStart dest amount purpose) = .write →
            u.funds.arbiter =
              { s.funds.arbiter with writing := some (.lotOutStart dest amount purpose) }) ∧
          (s.funds.arbiter.idle = false ∨ s.verdict (.lotOutStart dest amount purpose) ≠ .write →
            u.funds.arbiter =
              { s.funds.arbiter with
                credit := s.funds.arbiter.credit ++ [.lotOutStart dest amount purpose] })
      let spendable := s.funds.store.available - s.funds.reserved
      (purpose = .ask → ¬ lends →
        exec .lotPassTurn s = .next (State.settle
          { s with link := { s.link with slots := { s.link.slots with passage := .empty } } })) ∧
      (∀ g dest m, purpose = .ask → lends → s.pacing.settings = some g →
        s.chosenBorrower = some (dest, m) →
        claims dest (min m.remaining (min (spendable - g.keepAmount) 99999999))) ∧
      ∀ r, purpose = .remit → s.credit.remit = some r →
        let step := min (match r.remaining with | some n => n | none => spendable) (min spendable 99999999)
        (step ≠ 0 → claims r.dest step) ∧
        (step = 0 →
          ∃ u : State, exec .lotPassTurn s = .next u.settle ∧ u.credit.remit = none ∧
            u.funds.store = s.funds.store ∧
            (r.remaining = none → u.status = s.status) ∧
            (r.remaining ≠ none → u.status.holds 16 = true))) ∧
    (s.link.mayBegin = false ∨ s.link.nextSlot ≠ some .passage → exec .lotPassTurn s = .next s) ∧
    (s.credit.ask = none → exec .askDeadline s = .next s) ∧
    (∀ a, s.credit.ask = some a →
      ∃ t : State, exec .askDeadline s = .next t ∧ t.credit.ask = none ∧ t.funds = s.funds ∧
        t.track = s.track ∧ t.pacing = s.pacing ∧
        (s.link.sending .creditAsk = false → t.link.slots.creditAsk.req = none) ∧
        (s.pacing.lane ≠ .offLine → HoldingsAsked s t false) ∧
        ((∃ g, wanting g) → t.credit.creditShort = true ∧ t.credit.backOff = some (4 * a.deadline) ∧
          t.status.holds 17 = true) ∧
        ((∀ g, ¬ wanting g) → t.credit.creditShort = false ∧ t.credit.backOff = s.credit.backOff ∧
          t.status = s.status)) ∧
    (s.credit.backOff = none → exec .backOffEnd s = .next s) ∧
    (s.credit.backOff ≠ none →
      ((∀ g, ¬ wanting g) →
        exec .backOffEnd s = .next
          { s with credit := { s.credit with backOff := none, creditShort := false } }) ∧
      ∀ g, wanting g →
        (s.link.mute = true ∨ s.credit.ask ≠ none ∨ s.credit.remit ≠ none →
          exec .backOffEnd s = .next { s with credit := { s.credit with backOff := none } }) ∧
        (s.link.mute = false → s.credit.ask = none → s.credit.remit = none →
          ∃ t : State, exec .backOffEnd s = .next t ∧
            t.credit = { s.credit with backOff := none, ask := some ⟨g.askAmount, g.askTimeout⟩ } ∧
            t.funds = s.funds ∧ t.pacing = s.pacing ∧
            (s.link.attempt = none → t.link.slots.creditAsk = .holding .creditAsk))) ∧
    (∀ station,
      (lookup s.credit.mirror station = none → exec (.mirrorTimerExpiry station) s = .next s) ∧
      (lookup s.credit.mirror station ≠ none →
        ∃ mirror, exec (.mirrorTimerExpiry station) s = .next (State.lendingTest
            { s with credit := { s.credit with mirror := mirror } }) ∧
          EntrySet s.credit.mirror mirror station none)) ∧
    (∀ q p, s.credit.query = some q → s.funds.store.outbound = some p →
      (q.timer = none ∨ s.link.mute = true ∨ s.funds.storeFault = true →
        exec .queryTimerExpiry s = .next s) ∧
      (q.timer ≠ none → s.link.mute = false → s.funds.storeFault = false →
        (∀ purpose stage, s.link.slots.passage.req ≠ some (.lotPass purpose stage)) →
        s.link.sending .passage = false →
        let answered : Prop := ∃ x ∈ s.funds.arbiter.writing.toList ++ s.funds.arbiter.credit,
          ∃ outcome, x = .lotOutEnd p.number outcome
        let queried : State :=
          { s with
            credit := { s.credit with query := some { q with timer := some 500 } },
            link := { s.link with slots := { s.link.slots with
              passage := .holding (.passQuery p.dest p.number) } } }
        (q.count < 20 ∨ answered → exec .queryTimerExpiry s = .next queried) ∧
        (20 ≤ q.count → ¬ answered →
          exec .queryTimerExpiry s = .next
            { queried with
              credit := { queried.credit with passUnresolved := true },
              status := s.status.raise .passUnresolved })))

/-- The stop button: pressed, it starts the hold timer of a moving lane and wakes a QUIET one; released while the
timer runs, it drains a RUNNING lane; held for its time, it stops the lane with abandonment, which settles each record
by its state (logs 43, 57). A release may make the station idle. The head
temperature input: its rise starts the heat timer of a moving lane, the timer's end makes the heat factor
active, its fall ends both. -/
def Obligations.StopButtonAndHeadTemperature : Prop :=
  ∀ s : State, s.powered = true →
    (s.pacing.lane = .running ∨ s.pacing.lane = .draining →
      exec .stopButtonPress s = .next (State.settle
        { s with pacing := { s.pacing with button := true, holdTimer := some 4000 } })) ∧
    (s.pacing.lane = .offLine ∨ s.pacing.lane = .ready ∨ s.pacing.lane = .stopped →
      exec .stopButtonPress s = .next { s with pacing := { s.pacing with button := true } }) ∧
    (s.pacing.lane = .quiet →
      ∃ u : State, exec .stopButtonPress s = .next u.settle ∧ u.pacing.lane = .running ∧
        u.pacing.button = true ∧ u.pacing.holdTimer = some 4000 ∧ u.track = s.track ∧
        u.status = s.status ∧ u.funds.store = s.funds.store ∧
        (s.link.sending .wake = false → u.link.slots.wake = .holding .wake)) ∧
    (s.pacing.holdTimer = none →
      exec .stopButtonRelease s = .next (State.settle
        { s with pacing := { s.pacing with button := false } })) ∧
    (s.pacing.holdTimer ≠ none → s.pacing.lane ≠ .running →
      exec .stopButtonRelease s = .next (State.settle
        { s with pacing := { s.pacing with button := false, holdTimer := none } })) ∧
    (s.pacing.holdTimer ≠ none → s.pacing.lane = .running →
      ∃ u : State, exec .stopButtonRelease s = .next u.settle ∧
        u.pacing.lane = (if s.track.records = [] then .ready else .draining) ∧
        u.pacing.button = false ∧ u.pacing.holdTimer = none ∧ u.track = s.track ∧
        u.status = s.status ∧ u.funds.store = s.funds.store) ∧
    (s.pacing.holdTimer = none ∨ s.pacing.button = false → exec .holdTimerExpiry s = .next s) ∧
    (s.pacing.holdTimer ≠ none → s.pacing.button = true → s.pacing.lane.moving = true →
      ∃ u : State, exec .holdTimerExpiry s = .next u.settle ∧ u.pacing.lane = .stopped ∧
        u.pacing.holdTimer = none ∧ u.pacing.button = true ∧ u.track.records = [] ∧
        u.track.notes = [] ∧ u.track.gateOpen = false ∧ u.weigh.platform = [] ∧
        u.weigh.barQueue = [] ∧ u.engine = { queue := [], rating := none } ∧ u.funds.unfunded = [] ∧
        u.funds.store = s.funds.store ∧ u.status = s.status ∧ AbandonedFrom s u) ∧
    exec .headTemperatureRise s = .next
      { s with pacing := { s.pacing with
        hot := true,
        heatTimer := if s.pacing.lane = .running ∨ s.pacing.lane = .draining then some 2000
          else s.pacing.heatTimer } } ∧
    exec .headTemperatureFall s = .next
      { s with pacing := { s.pacing with hot := false, heatTimer := none, heatActive := false } } ∧
    (s.pacing.heatTimer = none → exec .heatTimerExpiry s = .next s) ∧
    (s.pacing.heatTimer ≠ none →
      exec .heatTimerExpiry s = .next
        { s with pacing := { s.pacing with heatTimer := none, heatActive := true } })
end

