-- ==== Sys2Proof/Laws/Bytes.lean ====
section
/-! SUPPORT. Byte strings: what a number's bytes spell, and a frame's fields read back from its bytes. -/

namespace Sys2Proof.Machine

@[simp] theorem be_length (n v : Nat) : (be n v).length = n := by
  induction n with
  | zero => rfl
  | succ n ih => simp [be, ih]

theorem ofBytes_append (a b : List Byte) : ofBytes (a ++ b) = ofBytes a * 256 ^ b.length + ofBytes b := by
  unfold ofBytes
  rw [List.foldl_append]
  generalize List.foldl (fun a b => a * 256 + b.toNat) 0 a = x
  induction b generalizing x with
  | nil => simp
  | cons c cs ih =>
    simp only [List.foldl_cons, List.length_cons]
    rw [ih, ih (0 * 256 + c.toNat), Nat.pow_succ, Nat.add_mul, Nat.zero_mul, Nat.zero_add,
      Nat.mul_comm (256 ^ cs.length) 256, Nat.mul_assoc, Nat.add_assoc]

theorem ofBytes_be (n v : Nat) : ofBytes (be n v) = v % 256 ^ n := by
  induction n with
  | zero => simp [be, ofBytes, Nat.mod_one]
  | succ n ih =>
    have h : be (n + 1) v = [BitVec.ofNat 8 (v / 256 ^ n)] ++ be n v := rfl
    have one (x : Nat) : ofBytes [BitVec.ofNat 8 x] = x % 256 := by simp [ofBytes]
    rw [h, ofBytes_append, ih, be_length, one, show 256 ^ (n + 1) = 256 ^ n * 256 from Nat.pow_succ _ _,
      Nat.mod_mul, Nat.add_comm, Nat.mul_comm]

/-- A number that fits its bytes is spelled by them. -/
theorem ofBytes_be_of_fits {n v : Nat} (h : fits n v = true) : ofBytes (be n v) = v := by
  rw [ofBytes_be]; exact Nat.mod_eq_of_lt (of_decide_eq_true h)

/-- A field at the front of a byte string. -/
theorem num_front {n v : Nat} (rest : List Byte) (h : fits n v = true) :
    num (be n v ++ rest) 0 n = v := by
  simp [num, List.take_left', ofBytes_be_of_fits h]

/-- A field after `i` bytes. -/
theorem num_skip (a b : List Byte) (i n : Nat) (h : a.length = i) : num (a ++ b) i n = num b 0 n := by
  subst h; simp [num]

/-- The fields of a frame are read back from its bytes (R110, R111). -/
theorem parseFrame_frameBytes {kind src dest : Nat} {payload : List Byte} (hk : kind < 256)
    (hs : src < 256) (hd : dest < 256) (hp : payload.length ≤ 48) :
    parseFrame (frameBytes kind src dest payload) = some ⟨kind, src, dest, payload⟩ := by
  have b1 (v : Nat) : be 1 v = [BitVec.ofNat 8 v] := by simp [be]
  have n1 (x : Byte) : ofBytes [x] = x.toNat := by simp [ofBytes]
  unfold frameBytes
  simp only [b1, List.cons_append, List.nil_append]
  generalize hc : checkBytes 0xFFFF#16 (BitVec.ofNat 8 kind :: BitVec.ofNat 8 src :: BitVec.ofNat 8 dest ::
    BitVec.ofNat 8 payload.length :: payload) = c
  have fl : fits 2 c.toNat = true := by simpa [fits] using c.isLt
  have lp : payload.length % 256 = payload.length := Nat.mod_eq_of_lt (by omega)
  unfold parseFrame
  simp only [num, List.drop_succ_cons, List.drop_zero, List.take_succ_cons, List.take_zero, n1,
    BitVec.toNat_ofNat, lp, Nat.reducePow, Nat.mod_eq_of_lt hk, Nat.mod_eq_of_lt hs, Nat.mod_eq_of_lt hd,
    List.head?_cons]
  have e1 : (BitVec.ofNat 8 kind :: BitVec.ofNat 8 src :: BitVec.ofNat 8 dest ::
      BitVec.ofNat 8 payload.length :: (payload ++ be 2 c.toNat)).take (4 + payload.length) =
      BitVec.ofNat 8 kind :: BitVec.ofNat 8 src :: BitVec.ofNat 8 dest ::
        BitVec.ofNat 8 payload.length :: payload := by
    rw [show 4 + payload.length = payload.length + 1 + 1 + 1 + 1 from by omega]
    simp [List.take_succ_cons]
  have e2 : (startDelimiter :: BitVec.ofNat 8 kind :: BitVec.ofNat 8 src :: BitVec.ofNat 8 dest ::
      BitVec.ofNat 8 payload.length :: (payload ++ be 2 c.toNat)).drop (5 + payload.length) =
      be 2 c.toNat := by
    rw [show 5 + payload.length = payload.length + 1 + 1 + 1 + 1 + 1 from by omega]
    simp [List.drop_succ_cons]
  have e3 : (be 2 c.toNat).take 2 = be 2 c.toNat := List.take_of_length_le (by simp)
  rw [e1, e2, e3, hc, ofBytes_be_of_fits fl]
  simp [hp]
  omega

/-! ### What the dispatch takes (R119, R171) -/

/-- A payload is taken exactly when it has the length. -/
theorem ofLength_isSome {p : List Byte} {n : Nat} {c : Instr} : (ofLength p n c).isSome = true ↔ p.length = n := by
  unfold ofLength; split <;> simp_all

/-- The kind byte and the length of a segment that is read (R171). -/
theorem segmentOf_isSome {bs : List Byte} (h : (segmentOf bs).isSome = true) :
    (num bs 0 1 = 1 ∧ bs.length = 10) ∨ (num bs 0 1 = 2 ∧ 3 ≤ bs.length ∧ bs.length % 3 = 0) ∨
      (num bs 0 1 = 3 ∧ bs.length = 21) := by
  unfold segmentOf at h
  split at h <;> rename_i e <;> first | (split at h <;> simp_all) | simp_all

/-- The console's kinds that may be broadcast, with their lengths (R119, R171). -/
theorem consoleShared_isSome {a : Bool} {k : Nat} {p : List Byte} (h : (consoleShared a k p).isSome = true) :
    (k, p.length) ∈ [(0x32, 8), (0x34, 5), (0x35, 2), (0x36, 6), (0x37, 1), (0x38, 0), (0x39, 0), (0x3B, 1)] ∨
      (k = 0x33 ∧ (segmentOf (p.drop 3)).isSome = true) := by
  unfold consoleShared at h
  split at h <;> simp_all [ofLength_isSome]

/-- The console's kinds for one station alone, with their lengths (R119, R171). -/
theorem consoleOwn_isSome {k : Nat} {p : List Byte} (h : (consoleOwn k p).isSome = true) :
    (k, p.length) ∈ [(0x30, 48), (0x31, 6), (0x3A, 0), (0x3C, 1), (0x3D, 5), (0x3E, 4), (0x3F, 5)] := by
  unfold consoleOwn at h
  split at h <;> simp_all [ofLength_isSome]

/-- The stations' broadcast kinds, with their lengths (R119, R171). -/
theorem peerBroadcast_isSome {k src : Nat} {p : List Byte} (h : (peerBroadcast k src p).isSome = true) :
    (k, p.length) ∈ [(0x02, 3), (0x03, 0), (0x04, 0), (0x10, 4), (0x20, 24), (0x21, 0)] := by
  unfold peerBroadcast at h
  split at h <;> simp_all [ofLength_isSome]

/-- The stations' addressed kinds, with their lengths (R119, R171). -/
theorem peerAddressed_isSome {own seen : Bool} {k src dest : Nat} {p : List Byte}
    (h : (peerAddressed own seen k src dest p).isSome = true) :
    (k, p.length) = (0x11, 9) ∨ (own = true ∧ (k, p.length) ∈ [(0x01, 5), (0x12, 4)]) := by
  unfold peerAddressed at h
  cases own <;> split at h <;> simp_all [ofLength_isSome]

/-- A byte read as a number other than 0 is there. -/
theorem byte_of_num {bs : List Byte} {v : Nat} (h0 : v ≠ 0) (h : num bs 0 1 = v) :
    bs[0]? = some (BitVec.ofNat 8 v) := by
  cases bs with
  | nil => simp [num, ofBytes] at h; omega
  | cons b t =>
    simp [num, ofBytes] at h
    simp [← h]

/-! ### Packed fields (R172) -/

/-- Fields packed after `a` stand below it: they fill exactly the sum of their widths (R172). -/
theorem packed_after (l : List (Nat × Nat)) (a : Nat) (h : ∀ f ∈ l, f.2 < 2 ^ f.1) :
    ∃ r, l.foldl (fun a f => a * 2 ^ f.1 + f.2) a = a * 2 ^ (l.map Prod.fst).sum + r ∧
      r < 2 ^ (l.map Prod.fst).sum := by
  induction l generalizing a with
  | nil => exact ⟨0, by simp, by simp⟩
  | cons f fs ih =>
    obtain ⟨r, e, lt⟩ := ih (a * 2 ^ f.1 + f.2) (fun g hg => h g (List.mem_cons_of_mem _ hg))
    have hf := h f List.mem_cons_self
    refine ⟨f.2 * 2 ^ (fs.map Prod.fst).sum + r, ?_, ?_⟩
    · rw [List.foldl_cons, e, List.map_cons, List.sum_cons, Nat.pow_add, Nat.add_mul, Nat.mul_assoc,
        Nat.add_assoc]
    · rw [List.map_cons, List.sum_cons, Nat.pow_add]
      calc f.2 * 2 ^ (fs.map Prod.fst).sum + r
          < f.2 * 2 ^ (fs.map Prod.fst).sum + 2 ^ (fs.map Prod.fst).sum := Nat.add_lt_add_left lt _
        _ = (f.2 + 1) * 2 ^ (fs.map Prod.fst).sum := by rw [Nat.add_mul, Nat.one_mul]
        _ ≤ 2 ^ f.1 * 2 ^ (fs.map Prod.fst).sum := Nat.mul_le_mul_right _ hf
/-- A packed field is read back from its place (R172). -/
theorem packed_field (before later : List (Nat × Nat)) (w v : Nat) (hv : v < 2 ^ w)
    (h : ∀ f ∈ later, f.2 < 2 ^ f.1) :
    (before ++ (w, v) :: later).foldl (fun a f => a * 2 ^ f.1 + f.2) 0 / 2 ^ (later.map Prod.fst).sum
      % 2 ^ w = v := by
  rw [List.foldl_append, List.foldl_cons]
  obtain ⟨r, e, lt⟩ := packed_after later
    (before.foldl (fun a f => a * 2 ^ f.1 + f.2) 0 * 2 ^ w + v) h
  rw [e, Nat.mul_comm _ (2 ^ (later.map Prod.fst).sum), Nat.mul_add_div (Nat.two_pow_pos _),
    Nat.div_eq_of_lt lt, Nat.add_zero, Nat.mul_comm, Nat.mul_add_mod, Nat.mod_eq_of_lt hv]

/-! ### Bytes of single values -/

/-- Byte values are read back from their bytes (R169). -/
theorem byteValues_bytes (l : List Nat) (h : ∀ v ∈ l, v < 256) : byteValues ((l.map (be 1)).flatten) = l := by
  induction l with
  | nil => rfl
  | cons a l ih =>
    have rest := ih (fun v m => h v (List.mem_cons_of_mem a m))
    have small : a < 256 := h a List.mem_cons_self
    rw [List.map_cons, List.flatten_cons]
    unfold byteValues at rest ⊢
    rw [List.map_append, rest]
    simp [be, small]
/-- Bytes are the bytes of their values (R169). -/
theorem bytes_byteValues (bs : List Byte) : ((byteValues bs).map (be 1)).flatten = bs := by
  induction bs with
  | nil => rfl
  | cons b bs ih => simp [byteValues, be] at ih ⊢; exact ih
theorem length_bytes (l : List Nat) : ((l.map (be 1)).flatten).length = l.length := by
  induction l with
  | nil => rfl
  | cons a l ih => rw [List.map_cons, List.flatten_cons, List.length_append, ih, be_length, List.length_cons]; omega

end Sys2Proof.Machine
end

