-- ==== Sys2Proof/Laws/State.lean ====
section
/-! SUPPORT. Every field of State after every update of one block: one lemma each, true by definition. -/

namespace Sys2Proof.Machine

section
variable (s : State) (f : Io → Io)
@[simp] theorem mapIo_pending : (s.mapIo f).pending = s.pending := rfl
@[simp] theorem mapIo_powered : (s.mapIo f).powered = s.powered := rfl
@[simp] theorem mapIo_io : (s.mapIo f).io = f s.io := rfl
@[simp] theorem mapIo_track : (s.mapIo f).track = s.track := rfl
@[simp] theorem mapIo_weigh : (s.mapIo f).weigh = s.weigh := rfl
@[simp] theorem mapIo_rate : (s.mapIo f).rate = s.rate := rfl
@[simp] theorem mapIo_engine : (s.mapIo f).engine = s.engine := rfl
@[simp] theorem mapIo_funds : (s.mapIo f).funds = s.funds := rfl
@[simp] theorem mapIo_print : (s.mapIo f).print = s.print := rfl
@[simp] theorem mapIo_link : (s.mapIo f).link = s.link := rfl
@[simp] theorem mapIo_credit : (s.mapIo f).credit = s.credit := rfl
@[simp] theorem mapIo_clock : (s.mapIo f).clock = s.clock := rfl
@[simp] theorem mapIo_pacing : (s.mapIo f).pacing = s.pacing := rfl
@[simp] theorem mapIo_status : (s.mapIo f).status = s.status := rfl
end

section
variable (s : State) (f : Track → Track)
@[simp] theorem mapTrack_pending : (s.mapTrack f).pending = s.pending := rfl
@[simp] theorem mapTrack_powered : (s.mapTrack f).powered = s.powered := rfl
@[simp] theorem mapTrack_io : (s.mapTrack f).io = s.io := rfl
@[simp] theorem mapTrack_track : (s.mapTrack f).track = f s.track := rfl
@[simp] theorem mapTrack_weigh : (s.mapTrack f).weigh = s.weigh := rfl
@[simp] theorem mapTrack_rate : (s.mapTrack f).rate = s.rate := rfl
@[simp] theorem mapTrack_engine : (s.mapTrack f).engine = s.engine := rfl
@[simp] theorem mapTrack_funds : (s.mapTrack f).funds = s.funds := rfl
@[simp] theorem mapTrack_print : (s.mapTrack f).print = s.print := rfl
@[simp] theorem mapTrack_link : (s.mapTrack f).link = s.link := rfl
@[simp] theorem mapTrack_credit : (s.mapTrack f).credit = s.credit := rfl
@[simp] theorem mapTrack_clock : (s.mapTrack f).clock = s.clock := rfl
@[simp] theorem mapTrack_pacing : (s.mapTrack f).pacing = s.pacing := rfl
@[simp] theorem mapTrack_status : (s.mapTrack f).status = s.status := rfl
end

section
variable (s : State) (f : Weigh → Weigh)
@[simp] theorem mapWeigh_pending : (s.mapWeigh f).pending = s.pending := rfl
@[simp] theorem mapWeigh_powered : (s.mapWeigh f).powered = s.powered := rfl
@[simp] theorem mapWeigh_io : (s.mapWeigh f).io = s.io := rfl
@[simp] theorem mapWeigh_track : (s.mapWeigh f).track = s.track := rfl
@[simp] theorem mapWeigh_weigh : (s.mapWeigh f).weigh = f s.weigh := rfl
@[simp] theorem mapWeigh_rate : (s.mapWeigh f).rate = s.rate := rfl
@[simp] theorem mapWeigh_engine : (s.mapWeigh f).engine = s.engine := rfl
@[simp] theorem mapWeigh_funds : (s.mapWeigh f).funds = s.funds := rfl
@[simp] theorem mapWeigh_print : (s.mapWeigh f).print = s.print := rfl
@[simp] theorem mapWeigh_link : (s.mapWeigh f).link = s.link := rfl
@[simp] theorem mapWeigh_credit : (s.mapWeigh f).credit = s.credit := rfl
@[simp] theorem mapWeigh_clock : (s.mapWeigh f).clock = s.clock := rfl
@[simp] theorem mapWeigh_pacing : (s.mapWeigh f).pacing = s.pacing := rfl
@[simp] theorem mapWeigh_status : (s.mapWeigh f).status = s.status := rfl
end

section
variable (s : State) (f : Rate → Rate)
@[simp] theorem mapRate_pending : (s.mapRate f).pending = s.pending := rfl
@[simp] theorem mapRate_powered : (s.mapRate f).powered = s.powered := rfl
@[simp] theorem mapRate_io : (s.mapRate f).io = s.io := rfl
@[simp] theorem mapRate_track : (s.mapRate f).track = s.track := rfl
@[simp] theorem mapRate_weigh : (s.mapRate f).weigh = s.weigh := rfl
@[simp] theorem mapRate_rate : (s.mapRate f).rate = f s.rate := rfl
@[simp] theorem mapRate_engine : (s.mapRate f).engine = s.engine := rfl
@[simp] theorem mapRate_funds : (s.mapRate f).funds = s.funds := rfl
@[simp] theorem mapRate_print : (s.mapRate f).print = s.print := rfl
@[simp] theorem mapRate_link : (s.mapRate f).link = s.link := rfl
@[simp] theorem mapRate_credit : (s.mapRate f).credit = s.credit := rfl
@[simp] theorem mapRate_clock : (s.mapRate f).clock = s.clock := rfl
@[simp] theorem mapRate_pacing : (s.mapRate f).pacing = s.pacing := rfl
@[simp] theorem mapRate_status : (s.mapRate f).status = s.status := rfl
end

section
variable (s : State) (f : Engine → Engine)
@[simp] theorem mapEngine_pending : (s.mapEngine f).pending = s.pending := rfl
@[simp] theorem mapEngine_powered : (s.mapEngine f).powered = s.powered := rfl
@[simp] theorem mapEngine_io : (s.mapEngine f).io = s.io := rfl
@[simp] theorem mapEngine_track : (s.mapEngine f).track = s.track := rfl
@[simp] theorem mapEngine_weigh : (s.mapEngine f).weigh = s.weigh := rfl
@[simp] theorem mapEngine_rate : (s.mapEngine f).rate = s.rate := rfl
@[simp] theorem mapEngine_engine : (s.mapEngine f).engine = f s.engine := rfl
@[simp] theorem mapEngine_funds : (s.mapEngine f).funds = s.funds := rfl
@[simp] theorem mapEngine_print : (s.mapEngine f).print = s.print := rfl
@[simp] theorem mapEngine_link : (s.mapEngine f).link = s.link := rfl
@[simp] theorem mapEngine_credit : (s.mapEngine f).credit = s.credit := rfl
@[simp] theorem mapEngine_clock : (s.mapEngine f).clock = s.clock := rfl
@[simp] theorem mapEngine_pacing : (s.mapEngine f).pacing = s.pacing := rfl
@[simp] theorem mapEngine_status : (s.mapEngine f).status = s.status := rfl
end

section
variable (s : State) (f : Funds → Funds)
@[simp] theorem mapFunds_pending : (s.mapFunds f).pending = s.pending := rfl
@[simp] theorem mapFunds_powered : (s.mapFunds f).powered = s.powered := rfl
@[simp] theorem mapFunds_io : (s.mapFunds f).io = s.io := rfl
@[simp] theorem mapFunds_track : (s.mapFunds f).track = s.track := rfl
@[simp] theorem mapFunds_weigh : (s.mapFunds f).weigh = s.weigh := rfl
@[simp] theorem mapFunds_rate : (s.mapFunds f).rate = s.rate := rfl
@[simp] theorem mapFunds_engine : (s.mapFunds f).engine = s.engine := rfl
@[simp] theorem mapFunds_funds : (s.mapFunds f).funds = f s.funds := rfl
@[simp] theorem mapFunds_print : (s.mapFunds f).print = s.print := rfl
@[simp] theorem mapFunds_link : (s.mapFunds f).link = s.link := rfl
@[simp] theorem mapFunds_credit : (s.mapFunds f).credit = s.credit := rfl
@[simp] theorem mapFunds_clock : (s.mapFunds f).clock = s.clock := rfl
@[simp] theorem mapFunds_pacing : (s.mapFunds f).pacing = s.pacing := rfl
@[simp] theorem mapFunds_status : (s.mapFunds f).status = s.status := rfl
end

section
variable (s : State) (f : Print → Print)
@[simp] theorem mapPrint_pending : (s.mapPrint f).pending = s.pending := rfl
@[simp] theorem mapPrint_powered : (s.mapPrint f).powered = s.powered := rfl
@[simp] theorem mapPrint_io : (s.mapPrint f).io = s.io := rfl
@[simp] theorem mapPrint_track : (s.mapPrint f).track = s.track := rfl
@[simp] theorem mapPrint_weigh : (s.mapPrint f).weigh = s.weigh := rfl
@[simp] theorem mapPrint_rate : (s.mapPrint f).rate = s.rate := rfl
@[simp] theorem mapPrint_engine : (s.mapPrint f).engine = s.engine := rfl
@[simp] theorem mapPrint_funds : (s.mapPrint f).funds = s.funds := rfl
@[simp] theorem mapPrint_print : (s.mapPrint f).print = f s.print := rfl
@[simp] theorem mapPrint_link : (s.mapPrint f).link = s.link := rfl
@[simp] theorem mapPrint_credit : (s.mapPrint f).credit = s.credit := rfl
@[simp] theorem mapPrint_clock : (s.mapPrint f).clock = s.clock := rfl
@[simp] theorem mapPrint_pacing : (s.mapPrint f).pacing = s.pacing := rfl
@[simp] theorem mapPrint_status : (s.mapPrint f).status = s.status := rfl
end

section
variable (s : State) (f : Link → Link)
@[simp] theorem mapLink_pending : (s.mapLink f).pending = s.pending := rfl
@[simp] theorem mapLink_powered : (s.mapLink f).powered = s.powered := rfl
@[simp] theorem mapLink_io : (s.mapLink f).io = s.io := rfl
@[simp] theorem mapLink_track : (s.mapLink f).track = s.track := rfl
@[simp] theorem mapLink_weigh : (s.mapLink f).weigh = s.weigh := rfl
@[simp] theorem mapLink_rate : (s.mapLink f).rate = s.rate := rfl
@[simp] theorem mapLink_engine : (s.mapLink f).engine = s.engine := rfl
@[simp] theorem mapLink_funds : (s.mapLink f).funds = s.funds := rfl
@[simp] theorem mapLink_print : (s.mapLink f).print = s.print := rfl
@[simp] theorem mapLink_link : (s.mapLink f).link = f s.link := rfl
@[simp] theorem mapLink_credit : (s.mapLink f).credit = s.credit := rfl
@[simp] theorem mapLink_clock : (s.mapLink f).clock = s.clock := rfl
@[simp] theorem mapLink_pacing : (s.mapLink f).pacing = s.pacing := rfl
@[simp] theorem mapLink_status : (s.mapLink f).status = s.status := rfl
end

section
variable (s : State) (f : Credit → Credit)
@[simp] theorem mapCredit_pending : (s.mapCredit f).pending = s.pending := rfl
@[simp] theorem mapCredit_powered : (s.mapCredit f).powered = s.powered := rfl
@[simp] theorem mapCredit_io : (s.mapCredit f).io = s.io := rfl
@[simp] theorem mapCredit_track : (s.mapCredit f).track = s.track := rfl
@[simp] theorem mapCredit_weigh : (s.mapCredit f).weigh = s.weigh := rfl
@[simp] theorem mapCredit_rate : (s.mapCredit f).rate = s.rate := rfl
@[simp] theorem mapCredit_engine : (s.mapCredit f).engine = s.engine := rfl
@[simp] theorem mapCredit_funds : (s.mapCredit f).funds = s.funds := rfl
@[simp] theorem mapCredit_print : (s.mapCredit f).print = s.print := rfl
@[simp] theorem mapCredit_link : (s.mapCredit f).link = s.link := rfl
@[simp] theorem mapCredit_credit : (s.mapCredit f).credit = f s.credit := rfl
@[simp] theorem mapCredit_clock : (s.mapCredit f).clock = s.clock := rfl
@[simp] theorem mapCredit_pacing : (s.mapCredit f).pacing = s.pacing := rfl
@[simp] theorem mapCredit_status : (s.mapCredit f).status = s.status := rfl
end

section
variable (s : State) (f : Clock → Clock)
@[simp] theorem mapClock_pending : (s.mapClock f).pending = s.pending := rfl
@[simp] theorem mapClock_powered : (s.mapClock f).powered = s.powered := rfl
@[simp] theorem mapClock_io : (s.mapClock f).io = s.io := rfl
@[simp] theorem mapClock_track : (s.mapClock f).track = s.track := rfl
@[simp] theorem mapClock_weigh : (s.mapClock f).weigh = s.weigh := rfl
@[simp] theorem mapClock_rate : (s.mapClock f).rate = s.rate := rfl
@[simp] theorem mapClock_engine : (s.mapClock f).engine = s.engine := rfl
@[simp] theorem mapClock_funds : (s.mapClock f).funds = s.funds := rfl
@[simp] theorem mapClock_print : (s.mapClock f).print = s.print := rfl
@[simp] theorem mapClock_link : (s.mapClock f).link = s.link := rfl
@[simp] theorem mapClock_credit : (s.mapClock f).credit = s.credit := rfl
@[simp] theorem mapClock_clock : (s.mapClock f).clock = f s.clock := rfl
@[simp] theorem mapClock_pacing : (s.mapClock f).pacing = s.pacing := rfl
@[simp] theorem mapClock_status : (s.mapClock f).status = s.status := rfl
end

section
variable (s : State) (f : Pacing → Pacing)
@[simp] theorem mapPacing_pending : (s.mapPacing f).pending = s.pending := rfl
@[simp] theorem mapPacing_powered : (s.mapPacing f).powered = s.powered := rfl
@[simp] theorem mapPacing_io : (s.mapPacing f).io = s.io := rfl
@[simp] theorem mapPacing_track : (s.mapPacing f).track = s.track := rfl
@[simp] theorem mapPacing_weigh : (s.mapPacing f).weigh = s.weigh := rfl
@[simp] theorem mapPacing_rate : (s.mapPacing f).rate = s.rate := rfl
@[simp] theorem mapPacing_engine : (s.mapPacing f).engine = s.engine := rfl
@[simp] theorem mapPacing_funds : (s.mapPacing f).funds = s.funds := rfl
@[simp] theorem mapPacing_print : (s.mapPacing f).print = s.print := rfl
@[simp] theorem mapPacing_link : (s.mapPacing f).link = s.link := rfl
@[simp] theorem mapPacing_credit : (s.mapPacing f).credit = s.credit := rfl
@[simp] theorem mapPacing_clock : (s.mapPacing f).clock = s.clock := rfl
@[simp] theorem mapPacing_pacing : (s.mapPacing f).pacing = f s.pacing := rfl
@[simp] theorem mapPacing_status : (s.mapPacing f).status = s.status := rfl
end

section
variable (s : State) (f : StickyFault)
@[simp] theorem raise_pending : (s.raise f).pending = s.pending := rfl
@[simp] theorem raise_powered : (s.raise f).powered = s.powered := rfl
@[simp] theorem raise_io : (s.raise f).io = s.io := rfl
@[simp] theorem raise_track : (s.raise f).track = s.track := rfl
@[simp] theorem raise_weigh : (s.raise f).weigh = s.weigh := rfl
@[simp] theorem raise_rate : (s.raise f).rate = s.rate := rfl
@[simp] theorem raise_engine : (s.raise f).engine = s.engine := rfl
@[simp] theorem raise_funds : (s.raise f).funds = s.funds := rfl
@[simp] theorem raise_print : (s.raise f).print = s.print := rfl
@[simp] theorem raise_link : (s.raise f).link = s.link := rfl
@[simp] theorem raise_credit : (s.raise f).credit = s.credit := rfl
@[simp] theorem raise_clock : (s.raise f).clock = s.clock := rfl
@[simp] theorem raise_pacing : (s.raise f).pacing = s.pacing := rfl
@[simp] theorem raise_status : (s.raise f).status = s.status.raise f := rfl
end

section
variable (s : State) (tag : Nat) (f : Piece → Piece)
@[simp] theorem setRecord_pending : (s.setRecord tag f).pending = s.pending := rfl
@[simp] theorem setRecord_powered : (s.setRecord tag f).powered = s.powered := rfl
@[simp] theorem setRecord_io : (s.setRecord tag f).io = s.io := rfl
@[simp] theorem setRecord_track : (s.setRecord tag f).track = s.track.update tag f := rfl
@[simp] theorem setRecord_weigh : (s.setRecord tag f).weigh = s.weigh := rfl
@[simp] theorem setRecord_rate : (s.setRecord tag f).rate = s.rate := rfl
@[simp] theorem setRecord_engine : (s.setRecord tag f).engine = s.engine := rfl
@[simp] theorem setRecord_funds : (s.setRecord tag f).funds = s.funds := rfl
@[simp] theorem setRecord_print : (s.setRecord tag f).print = s.print := rfl
@[simp] theorem setRecord_link : (s.setRecord tag f).link = s.link := rfl
@[simp] theorem setRecord_credit : (s.setRecord tag f).credit = s.credit := rfl
@[simp] theorem setRecord_clock : (s.setRecord tag f).clock = s.clock := rfl
@[simp] theorem setRecord_pacing : (s.setRecord tag f).pacing = s.pacing := rfl
@[simp] theorem setRecord_status : (s.setRecord tag f).status = s.status := rfl
end

section
variable (s : State) (i : SlotId) (r : Req)
@[simp] theorem request_pending : (s.request i r).pending = s.pending := rfl
@[simp] theorem request_powered : (s.request i r).powered = s.powered := rfl
@[simp] theorem request_io : (s.request i r).io = s.io := rfl
@[simp] theorem request_track : (s.request i r).track = s.track := rfl
@[simp] theorem request_weigh : (s.request i r).weigh = s.weigh := rfl
@[simp] theorem request_rate : (s.request i r).rate = s.rate := rfl
@[simp] theorem request_engine : (s.request i r).engine = s.engine := rfl
@[simp] theorem request_funds : (s.request i r).funds = s.funds := rfl
@[simp] theorem request_print : (s.request i r).print = s.print := rfl
@[simp] theorem request_link : (s.request i r).link = s.link.request i r := rfl
@[simp] theorem request_credit : (s.request i r).credit = s.credit := rfl
@[simp] theorem request_clock : (s.request i r).clock = s.clock := rfl
@[simp] theorem request_pacing : (s.request i r).pacing = s.pacing := rfl
@[simp] theorem request_status : (s.request i r).status = s.status := rfl
end

section
variable (s : State) (i : SlotId)
@[simp] theorem withdraw_pending : (s.withdraw i).pending = s.pending := rfl
@[simp] theorem withdraw_powered : (s.withdraw i).powered = s.powered := rfl
@[simp] theorem withdraw_io : (s.withdraw i).io = s.io := rfl
@[simp] theorem withdraw_track : (s.withdraw i).track = s.track := rfl
@[simp] theorem withdraw_weigh : (s.withdraw i).weigh = s.weigh := rfl
@[simp] theorem withdraw_rate : (s.withdraw i).rate = s.rate := rfl
@[simp] theorem withdraw_engine : (s.withdraw i).engine = s.engine := rfl
@[simp] theorem withdraw_funds : (s.withdraw i).funds = s.funds := rfl
@[simp] theorem withdraw_print : (s.withdraw i).print = s.print := rfl
@[simp] theorem withdraw_link : (s.withdraw i).link = s.link.withdraw i := rfl
@[simp] theorem withdraw_credit : (s.withdraw i).credit = s.credit := rfl
@[simp] theorem withdraw_clock : (s.withdraw i).clock = s.clock := rfl
@[simp] theorem withdraw_pacing : (s.withdraw i).pacing = s.pacing := rfl
@[simp] theorem withdraw_status : (s.withdraw i).status = s.status := rfl
end

end Sys2Proof.Machine
end

