-- ==== Sys2Proof/Laws/Frame.lean ====
section
/-! SUPPORT. What no shared operation but the writes and resets changes: the queue, the supply, the lane
interface, the funds store, the station number, the contents of the banks, the mirror. One lemma per
operation. -/

namespace Sys2Proof.Machine

/-- The contents of a bank (R41 to R43). -/
def Bank.contents (b : Bank) : Nat × Nat × List RateClass × List Surcharge :=
  (b.rounding, b.zones, b.classes, b.surcharges)

/-- The parts of the state that the shared operations leave alone. -/
structure Fixed where
  pending : List Instr
  powered : Bool
  io : Io
  store : Store
  draws : Nat
  station : Nat
  contentsA : Nat × Nat × List RateClass × List Surcharge
  contentsB : Nat × Nat × List RateClass × List Surcharge
  mirror : List (Nat × Mirrored)

/-- Those parts of a state. -/
def State.fixed (s : State) : Fixed :=
  { pending := s.pending, powered := s.powered, io := s.io, store := s.funds.store,
    draws := s.funds.freeDraws, station := s.link.station, contentsA := s.rate.bankA.contents,
    contentsB := s.rate.bankB.contents,
    mirror := s.credit.mirror }

theorem foldl_keeps {α β : Type} (g : State → α → State) (f : State → β) (h : ∀ s x, f (g s x) = f s)
    (l : List α) (s : State) : f (l.foldl g s) = f s := by
  induction l generalizing s with
  | nil => rfl
  | cons x xs ih => simp only [List.foldl_cons, ih, h]

section
variable (s : State)

@[simp] theorem mapTrack_fixed (f) : (s.mapTrack f).fixed = s.fixed := rfl
@[simp] theorem mapWeigh_fixed (f) : (s.mapWeigh f).fixed = s.fixed := rfl
@[simp] theorem mapEngine_fixed (f) : (s.mapEngine f).fixed = s.fixed := rfl
@[simp] theorem mapPrint_fixed (f) : (s.mapPrint f).fixed = s.fixed := rfl
@[simp] theorem mapClock_fixed (f) : (s.mapClock f).fixed = s.fixed := rfl
@[simp] theorem mapPacing_fixed (f) : (s.mapPacing f).fixed = s.fixed := rfl
@[simp] theorem raise_fixed (f) : (s.raise f).fixed = s.fixed := rfl
@[simp] theorem setRecord_fixed (t f) : (s.setRecord t f).fixed = s.fixed := rfl

@[simp] theorem mapCredit_fixed (f : Credit → Credit) (h : ∀ c, (f c).mirror = c.mirror) :
    (s.mapCredit f).fixed = s.fixed := by
  unfold State.fixed; simp only [mapCredit_pending, mapCredit_powered, mapCredit_io, mapCredit_funds,
    mapCredit_link, mapCredit_rate, mapCredit_credit, h]

theorem mapFunds_fixed (f : Funds → Funds) (h : (f s.funds).store = s.funds.store)
    (d : (f s.funds).freeDraws = s.funds.freeDraws) : (s.mapFunds f).fixed = s.fixed := by
  simp only [State.fixed, mapFunds_pending, mapFunds_powered, mapFunds_io, mapFunds_funds,
    mapFunds_link, mapFunds_rate, mapFunds_credit, h, d]

theorem mapLink_fixed (f : Link → Link) (h : (f s.link).station = s.link.station) :
    (s.mapLink f).fixed = s.fixed := by
  simp only [State.fixed, mapLink_pending, mapLink_powered, mapLink_io, mapLink_funds, mapLink_link,
    mapLink_rate, mapLink_credit, h]

theorem mapRate_fixed (f : Rate → Rate) (a : (f s.rate).bankA.contents = s.rate.bankA.contents)
    (b : (f s.rate).bankB.contents = s.rate.bankB.contents) : (s.mapRate f).fixed = s.fixed := by
  simp only [State.fixed, mapRate_pending, mapRate_powered, mapRate_io, mapRate_funds, mapRate_link,
    mapRate_rate, mapRate_credit, a, b]

theorem onlyIf_fixed (c : Bool) (f : State → State) (h : (f s).fixed = s.fixed) :
    (s.onlyIf c f).fixed = s.fixed := by
  unfold State.onlyIf; split
  · exact h
  · rfl

/-! ### Slots, asks, lending -/

@[simp] theorem linkRequest_station (l : Link) (i r) : (l.request i r).station = l.station := by
  unfold Link.request; split <;> rfl
@[simp] theorem linkWithdraw_station (l : Link) (i) : (l.withdraw i).station = l.station := by
  unfold Link.withdraw; split <;> rfl
@[simp] theorem request_fixed (i r) : (s.request i r).fixed = s.fixed :=
  mapLink_fixed s _ (linkRequest_station _ _ _)
@[simp] theorem withdraw_fixed (i) : (s.withdraw i).fixed = s.fixed :=
  mapLink_fixed s _ (linkWithdraw_station _ _)
@[simp] theorem askHoldings_fixed (f) : (s.askHoldings f).fixed = s.fixed := by
  unfold State.askHoldings; split <;> simp
@[simp] theorem openAsk_fixed (a t) : (s.openAsk a t).fixed = s.fixed := by simp [State.openAsk]
@[simp] theorem closeAsk_fixed : s.closeAsk.fixed = s.fixed := by
  unfold State.closeAsk; split <;> simp
@[simp] theorem askingTest_fixed : s.askingTest.fixed = s.fixed := by
  unfold State.askingTest; repeat' split
  all_goals simp
@[simp] theorem lendingTest_fixed : s.lendingTest.fixed = s.fixed := by
  unfold State.lendingTest; split <;> simp
@[simp] theorem reportSpendable_fixed : s.reportSpendable.fixed = s.fixed := by
  simp [State.reportSpendable]

/-! ### Records, reservations, claims -/

@[simp] theorem failRecord_fixed (t r) : (s.failRecord t r).fixed = s.fixed := by
  simp [State.failRecord]
@[simp] theorem becomeReady_fixed (t) : (s.becomeReady t).fixed = s.fixed := by
  unfold State.becomeReady; repeat' split
  all_goals simp
@[simp] theorem grantReservation_fixed (t p) : (s.grantReservation t p).fixed = s.fixed := by
  unfold State.grantReservation
  rw [setRecord_fixed]; exact mapFunds_fixed s _ rfl rfl
@[simp] theorem retryOne_fixed (t) : (s.retryOne t).fixed = s.fixed := by
  unfold State.retryOne; split
  · rfl
  · dsimp only; split
    · rw [mapFunds_fixed _ _ rfl rfl]; simp
    · rfl
@[simp] theorem retry_fixed : s.retry.fixed = s.fixed :=
  foldl_keeps _ _ (fun s t => retryOne_fixed s t) _ _
@[simp] theorem lowerReserved_fixed (a) : (s.lowerReserved a).fixed = s.fixed := by
  simp [State.lowerReserved, mapFunds_fixed]
@[simp] theorem releaseOf_fixed (p) : (s.releaseOf p).fixed = s.fixed := by
  unfold State.releaseOf; split <;> simp
@[simp] theorem claim_fixed (c) : (s.claim c).fixed = s.fixed := by
  unfold State.claim
  refine mapFunds_fixed s _ ?_ ?_ <;> dsimp only <;> split <;> rfl
@[simp] theorem offer_fixed (e) : (s.offer e).fixed = s.fixed := mapFunds_fixed s _ rfl rfl
@[simp] theorem offerSwitch_fixed (e) : (s.offerSwitch e).fixed = s.fixed := by
  unfold State.offerSwitch; split
  · simp
  · rw [mapFunds_fixed _ _ rfl rfl]; exact mapRate_fixed s _ rfl rfl
@[simp] theorem offerDateSet_fixed (e) : (s.offerDateSet e).fixed = s.fixed := by
  unfold State.offerDateSet; split
  · simp
  · rw [mapFunds_fixed _ _ rfl rfl]; simp
@[simp] theorem answerFrame_fixed (b) : (s.answerFrame b).fixed = s.fixed := mapLink_fixed s _ rfl
@[simp] theorem answerIf_fixed (a b) : (s.answerIf a b).fixed = s.fixed := by
  unfold State.answerIf; split <;> simp
@[simp] theorem awaitAnswer_fixed : s.awaitAnswer.fixed = s.fixed := mapLink_fixed s _ rfl

/-! ### Lane states and drains -/

@[simp] theorem setLane_fixed (l) : (s.setLane l).fixed = s.fixed := by
  unfold State.setLane; dsimp only; split <;> split <;> simp
@[simp] theorem endDrain_fixed : s.endDrain.fixed = s.fixed := by simp [State.endDrain]
@[simp] theorem drain_fixed (a b) : (s.drain a b).fixed = s.fixed := by
  unfold State.drain; split
  · dsimp only; split <;> simp
  · simp
  · rfl
@[simp] theorem wakeOwn_fixed : s.wakeOwn.fixed = s.fixed := by simp [State.wakeOwn]

/-! ### Rate memory -/

@[simp] theorem freed_contents (b : Bank) : b.freed.contents = b.contents := rfl
@[simp] theorem unname_contents (b : Bank) : b.unname.contents = b.contents := by
  unfold Bank.unname; split <;> rfl
@[simp] theorem switched_contents (b : Bank) : b.switched.contents = b.contents := by
  unfold Bank.switched; repeat' split
  all_goals rfl
theorem mapBank_contents (r : Rate) (i) (f : Bank → Bank) (h : ∀ b, (f b).contents = b.contents) :
    (r.mapBank i f).bankA.contents = r.bankA.contents ∧
      (r.mapBank i f).bankB.contents = r.bankB.contents := by
  cases i <;> simp [Rate.mapBank, h]
theorem mapRateBank_fixed (i) (f : Bank → Bank) (h : ∀ b, (f b).contents = b.contents) :
    (s.mapRate (fun r => r.mapBank i f)).fixed = s.fixed :=
  mapRate_fixed s _ (mapBank_contents _ i f h).1 (mapBank_contents _ i f h).2
@[simp] theorem reportDeparture_fixed (g) : (s.reportDeparture g).fixed = s.fixed := by
  unfold State.reportDeparture; split
  · rfl
  · split
    · rfl
    · refine mapRate_fixed s _ ?_ ?_ <;> split
      · exact (mapBank_contents _ _ _ unname_contents).1
      · rfl
      · exact (mapBank_contents _ _ _ unname_contents).2
      · rfl
@[simp] theorem loadFailed_fixed (r) : (s.loadFailed r).fixed = s.fixed := rfl
@[simp] theorem switchBanks_fixed : s.switchBanks.fixed = s.fixed := by
  unfold State.switchBanks
  rw [mapRate_fixed _ _ rfl rfl, askHoldings_fixed, offerSwitch_fixed]
  exact mapRate_fixed s _ (switched_contents _) (switched_contents _)
@[simp] theorem switchTest_fixed : s.switchTest.fixed = s.fixed := by
  unfold State.switchTest; split <;> simp

/-! ### The print path and departures -/

@[simp] theorem sendHead_fixed (m) : (s.sendHead m).fixed = s.fixed := rfl
@[simp] theorem passUnprinted_fixed (p c) : (s.passUnprinted p c).fixed = s.fixed := by
  simp [State.passUnprinted]
@[simp] theorem spoil_fixed (p c) : (s.spoil p c).fixed = s.fixed := by simp [State.spoil]
@[simp] theorem discardImprint_fixed (t) : (s.discardImprint t).fixed = s.fixed := rfl
@[simp] theorem abortPrinting_fixed (e) : (s.abortPrinting e).fixed = s.fixed := by
  unfold State.abortPrinting; dsimp only; split <;> simp
@[simp] theorem spoilForHeadFault_fixed : s.spoilForHeadFault.fixed = s.fixed := by
  unfold State.spoilForHeadFault
  dsimp only
  rw [mapPrint_fixed, foldl_keeps (fun s (p : Piece) => (s.discardImprint p.tag).spoil p .headFault) State.fixed
      (fun s p => by simp), mapPrint_fixed, foldl_keeps _ _ (fun s e => abortPrinting_fixed s e)]
@[simp] theorem raiseHeadFault_fixed (n c) : (s.raiseHeadFault n c).fixed = s.fixed := by
  unfold State.raiseHeadFault; dsimp only; split <;> simp
@[simp] theorem headFaultEnd_fixed : s.headFaultEnd.fixed = s.fixed := by
  unfold State.headFaultEnd; split <;> simp
@[simp] theorem releaseImprint_fixed (p) : (s.releaseImprint p).fixed = s.fixed := by
  unfold State.releaseImprint; dsimp only; split <;> simp
@[simp] theorem releaseTests_fixed (p) : (s.releaseTests p).fixed = s.fixed := by
  unfold State.releaseTests; repeat' split
  all_goals simp
@[simp] theorem printEvent_fixed (p) : (s.printEvent p).fixed = s.fixed := by
  unfold State.printEvent; repeat' split
  all_goals simp
@[simp] theorem exitSettle_fixed (p) : (s.exitSettle p).fixed = s.fixed := by
  unfold State.exitSettle; repeat' split
  all_goals simp
@[simp] theorem abandonSettle_fixed (p) : (s.abandonSettle p).fixed = s.fixed := by
  unfold State.abandonSettle; repeat' split
  all_goals simp
@[simp] theorem trackEmptied_fixed : s.trackEmptied.fixed = s.fixed := by
  unfold State.trackEmptied; dsimp only; split <;> simp
@[simp] theorem departed_fixed (p) : (s.departed p).fixed = s.fixed := by
  unfold State.departed; dsimp only; split <;> simp
@[simp] theorem dropUnfunded_fixed (t) : (s.dropUnfunded t).fixed = s.fixed := by
  unfold State.dropUnfunded; split
  · dsimp only; split <;> simp [mapFunds_fixed]
  · rfl
@[simp] theorem divert_fixed (g p r) : (s.divert g p r).fixed = s.fixed := by simp [State.divert]
@[simp] theorem exitRecord_fixed (p) : (s.exitRecord p).fixed = s.fixed := by simp [State.exitRecord]
@[simp] theorem abandonOne_fixed (p) : (s.abandonOne p).fixed = s.fixed := by simp [State.abandonOne]
@[simp] theorem clearLane_fixed : s.clearLane.fixed = s.fixed := rfl
@[simp] theorem abandon_fixed : s.abandon.fixed = s.fixed := by
  unfold State.abandon; dsimp only
  split <;> simp [foldl_keeps State.abandonOne _ abandonOne_fixed, mapFunds_fixed]
@[simp] theorem stop_fixed : s.stop.fixed = s.fixed := by
  unfold State.stop; split <;> simp
@[simp] theorem stray_fixed (e) : (s.stray e).fixed = s.fixed := by simp [State.stray]
@[simp] theorem raiseDuplicate_fixed : s.raiseDuplicate.fixed = s.fixed := by
  unfold State.raiseDuplicate; dsimp only
  split <;> simp <;> exact mapLink_fixed _ _ rfl

/-! ### The passage slot empties -/

@[simp] theorem nextRemitStep_fixed : s.nextRemitStep.fixed = s.fixed := by
  unfold State.nextRemitStep; split <;> simp
@[simp] theorem passageEmptied_fixed : s.passageEmptied.fixed = s.fixed := by
  unfold State.passageEmptied; split <;> simp
@[simp] theorem cutOff_fixed (a) : (s.cutOff a).fixed = s.fixed := by
  unfold State.cutOff; dsimp only
  split
  · rw [passageEmptied_fixed]; exact mapLink_fixed _ _ rfl
  · exact mapLink_fixed _ _ rfl

/-! ### Answers to claims, grants, and the end of a step -/

@[simp] theorem raiseStoreFault_fixed : s.raiseStoreFault.fixed = s.fixed := by
  unfold State.raiseStoreFault; dsimp only; split <;> simp <;> exact mapFunds_fixed _ _ rfl rfl
@[simp] theorem judgeQuery_fixed : s.judgeQuery.fixed = s.fixed := by
  unfold State.judgeQuery; split
  · rfl
  · dsimp only; repeat' split
    all_goals simp
@[simp] theorem endRemit_fixed : s.endRemit.fixed = s.fixed := by simp [State.endRemit]
@[simp] theorem endRemitIncomplete_fixed : s.endRemitIncomplete.fixed = s.fixed := by
  unfold State.endRemitIncomplete; split <;> simp
@[simp] theorem startQuery_fixed : s.startQuery.fixed = s.fixed := rfl
@[simp] theorem withdrawClaimed_fixed : s.withdrawClaimed.fixed = s.fixed := by
  unfold State.withdrawClaimed; split <;> simp
@[simp] theorem refuseRefill_fixed (n r) : (s.refuseRefill n r).fixed = s.fixed := by
  simp [State.refuseRefill]
@[simp] theorem debitRefused_fixed (t p f r) : (s.debitRefused t p f r).fixed = s.fixed := by
  unfold State.debitRefused; dsimp only; split <;> split <;> simp
@[simp] theorem refuse_fixed (c r) : (s.refuse c r).fixed = s.fixed := by
  unfold State.refuse; dsimp only; repeat' split
  all_goals simp
@[simp] theorem claimAppend_fixed : s.claimAppend.fixed = s.fixed := by
  unfold State.claimAppend; split <;> simp
theorem grant_fixed (n : Nat) : (State.grant n s).fixed = s.fixed := by
  induction n generalizing s with
  | zero => rfl
  | succ n ih =>
    unfold State.grant; dsimp only
    split
    · simp
    · split
      · simp
      · split
        · rw [mapFunds_fixed _ _ rfl rfl, mapFunds_fixed _ _ rfl rfl]; simp
        · rw [ih, mapFunds_fixed _ _ rfl rfl]; simp
        · rw [ih, refuse_fixed, mapFunds_fixed _ _ rfl rfl]; simp
@[simp] theorem pump_fixed : s.pump.fixed = s.fixed := grant_fixed s _
@[simp] theorem takeTag_fixed : s.takeTag.fixed = s.fixed := by
  unfold State.takeTag; repeat' split
  all_goals simp
@[simp] theorem closeGate_fixed : s.closeGate.fixed = s.fixed := by
  unfold State.closeGate; repeat' split
  all_goals simp
@[simp] theorem followIdle_fixed : s.followIdle.fixed = s.fixed := by
  unfold State.followIdle; dsimp only; repeat' split
  all_goals simp
@[simp] theorem settle_fixed : s.settle.fixed = s.fixed := by simp [State.settle]

end

/-! ### The parts one by one -/

theorem pending_of_fixed {s t : State} (h : t.fixed = s.fixed) : t.pending = s.pending :=
  congrArg Fixed.pending h
theorem powered_of_fixed {s t : State} (h : t.fixed = s.fixed) : t.powered = s.powered :=
  congrArg Fixed.powered h
theorem mirror_of_fixed {s t : State} (h : t.fixed = s.fixed) : t.credit.mirror = s.credit.mirror :=
  congrArg Fixed.mirror h
theorem io_of_fixed {s t : State} (h : t.fixed = s.fixed) : t.io = s.io := congrArg Fixed.io h
theorem store_of_fixed {s t : State} (h : t.fixed = s.fixed) : t.funds.store = s.funds.store :=
  congrArg Fixed.store h
theorem station_of_fixed {s t : State} (h : t.fixed = s.fixed) : t.link.station = s.link.station :=
  congrArg Fixed.station h

end Sys2Proof.Machine
end

