-- ==== Sys2Proof/Laws/Ops.lean ====
section
/-! SUPPORT. What each shared operation does, said once: commands on a powered part, frames taken and not
taken, claims, tables keyed by station, sticky faults, slots offered, the judgement of a SETTLE. -/

namespace Sys2Proof.Machine

section
variable (s : State)

/-! ### Commands and frames -/

theorem live_powered (h : s.powered = true) (f : State → State) : live s f = .next (f s) := by
  simp [live, h]
theorem live_unpowered (h : s.powered = false) (f : State → State) : live s f = .next s := by
  simp [live, h]
@[simp] theorem onlyIf_true (f : State → State) : s.onlyIf true f = f s := rfl
@[simp] theorem onlyIf_false (f : State → State) : s.onlyIf false f = s := rfl

theorem answerFrame_false : s.answerFrame false = { s with link := { s.link with ack := .released } } := by
  simp [State.answerFrame, State.mapLink]
theorem answerFrame_true : s.answerFrame true =
    { s with link := { s.link with
      ack := if s.link.stuck = false ∧ s.link.mute = false then .driven else .released } } := by
  cases h : s.link.stuck <;> cases g : s.link.mute <;> simp [State.answerFrame, State.mapLink, h, g]
@[simp] theorem answerIf_broadcast (taken : Bool) : s.answerIf false taken = s := rfl
@[simp] theorem answerIf_addressed (taken : Bool) : s.answerIf true taken = s.answerFrame taken := rfl

/-- A console frame is handed on while the dispatch is open, unless it is addressed to a MUTE station. -/
theorem consoleFrame_open (addressed : Bool) (f : State → State) (h : s.link.dispatchOpen = true)
    (g : addressed = true → s.link.mute = false) : s.consoleFrame addressed f = f s := by
  cases addressed <;> simp_all [State.consoleFrame]
theorem consoleFrame_shut (addressed : Bool) (f : State → State)
    (h : s.link.dispatchOpen = false ∨ (addressed = true ∧ s.link.mute = true)) :
    s.consoleFrame addressed f = s.answerIf addressed false := by
  rcases h with h | ⟨rfl, h⟩ <;> simp [State.consoleFrame, h]

theorem testSource_other (src : Nat) (h : src ≠ s.link.station) : s.testSource src = s := by
  simp [State.testSource, h]
theorem peerFrame_open (src : Nat) (f : State → State) (h : src ≠ s.link.station)
    (o : s.link.dispatchOpen = true) : s.peerFrame src f = f s := by
  simp [State.peerFrame, testSource_other s src h, o, State.onlyIf]
theorem peerFrame_shut (src : Nat) (f : State → State) (h : src ≠ s.link.station)
    (o : s.link.dispatchOpen = false) : s.peerFrame src f = s := by
  simp [State.peerFrame, testSource_other s src h, o, State.onlyIf]
theorem ownFrame_open (src : Nat) (f : State → State) (h : src ≠ s.link.station)
    (o : s.link.dispatchOpen = true) (m : s.link.mute = false) : s.ownFrame src f = f s := by
  simp [State.ownFrame, testSource_other s src h, o, m]
theorem ownFrame_shut (src : Nat) (f : State → State) (h : src ≠ s.link.station)
    (o : s.link.dispatchOpen = false ∨ s.link.mute = true) :
    s.ownFrame src f = s.answerFrame false := by
  rcases o with o | o <;> simp [State.ownFrame, testSource_other s src h, o]

/-- What a LOT PASS must say to be judged (R175). -/
theorem lotOk_eq (passage amount purpose : Nat) : lotOk passage amount purpose =
    if passage ≠ 0 ∧ 1 ≤ amount ∧ amount ≤ 99999999 then
      (if purpose = 1 then some .ask else if purpose = 2 then some .remit else none)
    else none := by
  have : (passage != 0 && inRange 1 Config.maxLot amount) =
      decide (passage ≠ 0 ∧ 1 ≤ amount ∧ amount ≤ 99999999) := by
    simp only [inRange, Config.maxLot, Bool.decide_and, ne_eq, decide_not]; rfl
  unfold lotOk; rw [this]
  simp only [decide_eq_true_eq]
  split
  · unfold Purpose.ofCode; split <;> simp_all
  · rfl

/-! ### Claims and grants -/

/-- A claim that meets a free store and passes its tests is written at once (R79, log 8). -/
theorem claim_granted (c : Claim) (h : s.funds.arbiter.idle = true) (v : s.verdict c = .write) :
    s.claim c =
      { s with funds := { s.funds with arbiter := { s.funds.arbiter with writing := some c } } } := by
  simp [State.claim, State.mapFunds, h, v]
/-- Any other claim joins its class (R79). -/
theorem claim_waits (c : Claim) (h : s.funds.arbiter.idle = false ∨ s.verdict c ≠ .write) :
    s.claim c = { s with funds := { s.funds with arbiter := s.funds.arbiter.enqueue c } } := by
  rcases h with h | h <;> simp [State.claim, State.mapFunds, h]
/-- The tests at a grant look at the funds store alone. -/
theorem verdict_congr (t : State) (c : Claim) (store : t.funds.store = s.funds.store)
    (fault : t.funds.storeFault = s.funds.storeFault) (reserved : t.funds.reserved = s.funds.reserved) :
    t.verdict c = s.verdict c := by
  unfold State.verdict Funds.spendable
  rw [store, fault, reserved]
/-- Nothing is granted while a write is in progress, but the append claim may join (R79, R89). -/
theorem grant_writing (n : Nat) (c : Claim) (h : s.funds.arbiter.writing = some c) :
    State.grant (n + 1) s = s.claimAppend := by
  have : s.claimAppend.funds.arbiter.writing.isSome = true := by
    unfold State.claimAppend
    split
    · have idle : s.funds.arbiter.idle = false := by simp [Arbiter.idle, h]
      simp [claim_waits s .journalAppend (.inl idle), Arbiter.enqueue, h]
    · simp [h]
  simp [State.grant, this]

/-! ### Slots -/

/-- A slot is offered when it holds a frame, and at a MUTE station only a STATUS (R114, R122). -/
theorem offers_iff (l : Link) (i : SlotId) : l.offers i = true ↔
    ∃ q, (l.slots.get i).req = some q ∧ (l.mute = false ∨ ∃ page, q = .status page) := by
  unfold Link.offers
  cases h : (l.slots.get i).req with
  | none => simp
  | some q => cases q <;> simp
@[simp] theorem slots_get_put (t : Slots) (i : SlotId) (x : Slot) : (t.put i x).get i = x := by
  cases i <;> rfl
@[simp] theorem slots_get_put_other (t : Slots) (i j : SlotId) (x : Slot) (h : j ≠ i) :
    (t.put i x).get j = t.get j := by
  cases i <;> cases j <;> first | rfl | exact absurd rfl h
/-- A request while its slot's frame is not being sent stands in the slot at once (R113). -/
theorem request_free (i : SlotId) (r : Req) (h : s.link.sending i = false) :
    s.request i r = { s with link := { s.link with slots := s.link.slots.put i (.holding r) } } := by
  simp [State.request, State.mapLink, Link.request, h]
/-- A withdrawal while its slot's frame is not being sent empties the slot (R113). -/
theorem withdraw_free (i : SlotId) (h : s.link.sending i = false) :
    s.withdraw i = { s with link := { s.link with slots := s.link.slots.put i .empty } } := by
  simp [State.withdraw, State.mapLink, Link.withdraw, h]

end

/-! ### Tables keyed by station -/

theorem lookup_insertEntry {α : Type} (l : List (Nat × α)) (st : Nat) (v : α) :
    lookup (insertEntry l st v) st = some v := by
  induction l with
  | nil => simp [insertEntry, lookup]
  | cons e rest ih =>
    obtain ⟨k, w⟩ := e
    unfold insertEntry
    split
    · simp [lookup]
    · split
      · simp [lookup]
      · simp only [lookup, ih]
        rw [if_neg (by omega)]
theorem lookup_insertEntry_other {α : Type} (l : List (Nat × α)) (st x : Nat) (v : α) (h : x ≠ st) :
    lookup (insertEntry l st v) x = lookup l x := by
  induction l with
  | nil => simp only [insertEntry, lookup]; rw [if_neg (by omega)]
  | cons e rest ih =>
    obtain ⟨k, w⟩ := e
    unfold insertEntry
    split
    · simp only [lookup]; rw [if_neg (by omega)]
    · split
      · simp only [lookup]; rw [if_neg (by omega), if_neg (by omega)]
      · simp only [lookup, ih]
theorem lookup_dropEntry {α : Type} (l : List (Nat × α)) (st : Nat) : lookup (dropEntry l st) st = none := by
  induction l with
  | nil => rfl
  | cons e rest ih =>
    obtain ⟨k, w⟩ := e
    unfold dropEntry at *
    by_cases h : k = st
    · simp [h, ih]
    · simp [h, lookup, ih]
theorem lookup_dropEntry_other {α : Type} (l : List (Nat × α)) (st x : Nat) (h : x ≠ st) :
    lookup (dropEntry l st) x = lookup l x := by
  induction l with
  | nil => rfl
  | cons e rest ih =>
    obtain ⟨k, w⟩ := e
    unfold dropEntry at *
    by_cases hk : k = st
    · have : k ≠ x := by omega
      simp only [List.filter_cons, hk, bne_self_eq_false, lookup, Bool.false_eq_true, if_false, ih]
      rw [if_neg (by omega)]
    · simp [hk, lookup, ih]

/-! ### Sticky faults -/

/-- A fault raised is held by its order (R166). -/
theorem holdFault_holds (f : StickyFault) (l : List StickyFault) :
    (holdFault f l).any (fun g => g.order == f.order) = true := by
  induction l with
  | nil => simp [holdFault]
  | cons g gs ih =>
    unfold holdFault
    split
    · simp
    · split
      · rename_i h
        split <;> simp [h]
      · simp only [List.any_cons, ih, Bool.or_true]
/-- A fault whose detail each raising replaces is held with the detail of this one (R166). -/
theorem holdFault_replaces (f : StickyFault) (l : List StickyFault) (h : f.replaces = true) :
    f ∈ holdFault f l := by
  induction l with
  | nil => simp [holdFault]
  | cons g gs ih =>
    unfold holdFault
    split
    · simp
    · split
      · simp
      · simp [ih]
/-- Raising a fault keeps every other kind held (R166). -/
theorem holdFault_keeps (f : StickyFault) (l : List StickyFault) (n : Nat)
    (h : l.any (fun g => g.order == n) = true) :
    (holdFault f l).any (fun g => g.order == n) = true := by
  induction l with
  | nil => simp at h
  | cons g gs ih =>
    simp only [List.any_cons, Bool.or_eq_true] at h
    unfold holdFault
    split
    · simp only [List.any_cons, Bool.or_eq_true]; right; exact h
    · split
      · rename_i e
        simp only [List.any_cons, Bool.or_eq_true]
        rcases h with h | h
        · left; split
          · rw [e]; exact h
          · exact h
        · right; exact h
      · simp only [List.any_cons, Bool.or_eq_true]
        rcases h with h | h
        · left; exact h
        · right; exact ih h
theorem raise_holds (s : State) (f : StickyFault) : (s.raise f).status.holds f.order = true :=
  holdFault_holds f _
theorem raise_keeps (s : State) (f : StickyFault) (n : Nat) (h : s.status.holds n = true) :
    (s.raise f).status.holds n = true := holdFault_keeps f _ n h
/-- Raising a fault leaves every fault of another order as it was (R166). -/
theorem holdFault_mem_other (f g : StickyFault) (l : List StickyFault) (h : g.order ≠ f.order) :
    g ∈ holdFault f l ↔ g ∈ l := by
  have gf : g ≠ f := fun e => h (e ▸ rfl)
  induction l with
  | nil => simp [holdFault, gf]
  | cons x xs ih =>
    unfold holdFault
    split
    · simp [gf]
    · split
      · rename_i e
        have gx : g ≠ x := fun e' => h (by rw [e', e])
        split <;> simp [gf, gx]
      · simp [ih]
/-- The fault of another order that is found is the one found before (R166). -/
theorem holdFault_find_other (f : StickyFault) (l : List StickyFault) (n : Nat) (h : f.order ≠ n) :
    (holdFault f l).find? (fun g => g.order == n) = l.find? (fun g => g.order == n) := by
  induction l with
  | nil => simp [holdFault, h]
  | cons x xs ih =>
    unfold holdFault
    split
    · simp [h]
    · split
      · rename_i e
        have : x.order ≠ n := e ▸ h
        split <;> simp [h, this]
      · simp only [List.find?_cons, ih]
/-- The fault found by its order after its raising, which keeps the detail held before (R166). -/
theorem holdFault_find (f : StickyFault) (l : List StickyFault) (r : f.replaces = false)
    (sorted : l.Pairwise (fun a b => a.order < b.order)) :
    (holdFault f l).find? (fun g => g.order == f.order) =
      some ((l.find? (fun g => g.order == f.order)).getD f) := by
  induction l with
  | nil => simp [holdFault]
  | cons x xs ih =>
    rw [List.pairwise_cons] at sorted
    unfold holdFault
    split
    · rename_i lt
      have none' : (x :: xs).find? (fun g => g.order == f.order) = none := by
        rw [List.find?_eq_none]
        intro y hy
        rcases List.mem_cons.1 hy with hy | hy
        · subst hy; simp; omega
        · have := sorted.1 y hy; simp; omega
      rw [none']; simp
    · split
      · rename_i e; simp [r, e]
      · rename_i e
        have : ¬ x.order = f.order := fun h => e h.symm
        simp [this, ih sorted.2]
/-- The fault of an order after a raising: another order's stands (R166). -/
theorem raise_fault_other (s : State) (f : StickyFault) (n : Nat) (h : f.order ≠ n) :
    (s.raise f).status.fault? n = s.status.fault? n := holdFault_find_other f _ n h
/-- A fault that keeps its detail stands after its raising with the detail held before, or with this one (R166). -/
theorem raise_fault_kept (s : State) (f : StickyFault) (r : f.replaces = false)
    (sorted : s.status.faults.Pairwise (fun a b => a.order < b.order)) :
    (s.raise f).status.fault? f.order = some ((s.status.fault? f.order).getD f) :=
  holdFault_find f _ r sorted

/-! ### SETTLE -/

/-- The judgement of a SETTLE gives the lowest number among its failing checks (R151). -/
theorem settleFailing_eq_some (r : SettleRecord) (n : Nat) :
    settleFailing r = some n ↔ (n, false) ∈ settleChecks r ∧ ∀ m, (m, false) ∈ settleChecks r → n ≤ m := by
  have lowest (l : List (Nat × Bool)) (a : Option Nat) :
      l.foldl (fun low c => if c.2 then low else match low with
        | none => some c.1
        | some m => some (min m c.1)) a = some n ↔
      (a = some n ∨ (n, false) ∈ l) ∧ (∀ m, a = some m → n ≤ m) ∧ ∀ m, (m, false) ∈ l → n ≤ m := by
    induction l generalizing a with
    | nil => simp; intro h m e; simp_all
    | cons c l ih =>
      obtain ⟨k, b⟩ := c
      rw [List.foldl_cons, ih]
      cases b <;> cases a <;> simp
      · intro _ _; rw [eq_comm]
      · rename_i v
        constructor
        · rintro ⟨h, h1, h2⟩
          exact ⟨by rcases h with h | h <;> (try simp only [h, or_true]) <;> omega, by omega, by omega, h2⟩
        · rintro ⟨h, h1, h2, h3⟩
          exact ⟨by rcases h with h | h | h <;> (try simp only [h, or_true]) <;> omega, by omega, h3⟩
  have h := lowest (settleChecks r) none
  simp only [reduceCtorEq, false_or, false_implies, implies_true, true_and] at h
  exact h

end Sys2Proof.Machine
end

