-- ==== Sys2Proof/Laws/PerInstr.lean ====
section
/-! SUPPORT. One fact about every command as syntax: the source of a well-formed frame heard from a station is
a station's number (R110). One lemma per constructor. -/

namespace Sys2Proof.Laws.FrameSource

/-- A well-formed command that is a frame heard from a station bears a source of 1..14 (R110). -/
def Statement (i : Instr) : Prop :=
  i.wellFormed = true → ∀ src, i.peerSource = some src → isStation src = true

theorem powerUp (kept : Bool) (inputs : StartInputs) : Statement (.powerUp kept inputs) := by
  intro _ s e; cases e
theorem warmReset (readBack : Bool) (inputs : StartInputs) : Statement (.warmReset readBack inputs) := by
  intro _ s e; cases e
theorem encoderStep (dir : Travel) : Statement (.encoderStep dir) := by
  intro _ s e; cases e
theorem infeedLeadEdge : Statement .infeedLeadEdge := by
  intro _ s e; cases e
theorem infeedTrailEdge : Statement .infeedTrailEdge := by
  intro _ s e; cases e
theorem downstreamLeadEdge (eye : DownEye) : Statement (.downstreamLeadEdge eye) := by
  intro _ s e; cases e
theorem downstreamTrailEdge (eye : DownEye) : Statement (.downstreamTrailEdge eye) := by
  intro _ s e; cases e
theorem feedGateOpen : Statement .feedGateOpen := by
  intro _ s e; cases e
theorem feedMiss : Statement .feedMiss := by
  intro _ s e; cases e
theorem graceEnd : Statement .graceEnd := by
  intro _ s e; cases e
theorem platformStartEvent (tag : Nat) : Statement (.platformStartEvent tag) := by
  intro _ s e; cases e
theorem windowOpening (tag : Nat) : Statement (.windowOpening tag) := by
  intro _ s e; cases e
theorem platformEndEvent (tag : Nat) : Statement (.platformEndEvent tag) := by
  intro _ s e; cases e
theorem platformLeaving (tag : Nat) : Statement (.platformLeaving tag) := by
  intro _ s e; cases e
theorem scaleSample (value : Nat) : Statement (.scaleSample value) := by
  intro _ s e; cases e
theorem barEvent (tag : Nat) : Statement (.barEvent tag) := by
  intro _ s e; cases e
theorem barReading (width thickness : Nat) : Statement (.barReading width thickness) := by
  intro _ s e; cases e
theorem barNoRead : Statement .barNoRead := by
  intro _ s e; cases e
theorem dateSampleAnswer (tag : Nat) : Statement (.dateSampleAnswer tag) := by
  intro _ s e; cases e
theorem bankChoice : Statement .bankChoice := by
  intro _ s e; cases e
theorem reservationRequest : Statement .reservationRequest := by
  intro _ s e; cases e
theorem decisionEvent (tag : Nat) : Statement (.decisionEvent tag) := by
  intro _ s e; cases e
theorem divertHoldEnd : Statement .divertHoldEnd := by
  intro _ s e; cases e
theorem armEvent (tag : Nat) : Statement (.armEvent tag) := by
  intro _ s e; cases e
theorem endOfPrintWindow (tag : Nat) : Statement (.endOfPrintWindow tag) := by
  intro _ s e; cases e
theorem jam (eye : DownEye) : Statement (.jam eye) := by
  intro _ s e; cases e
theorem noteArrival (classCode zone : Nat) (services : List Nat) :
    Statement (.noteArrival classCode zone services) := by
  intro _ s e; cases e
theorem headReady : Statement .headReady := by
  intro _ s e; cases e
theorem headNotReady : Statement .headNotReady := by
  intro _ s e; cases e
theorem printDone (piece : Nat) : Statement (.printDone piece) := by
  intro _ s e; cases e
theorem printFault (piece cause : Nat) : Statement (.printFault piece cause) := by
  intro _ s e; cases e
theorem stopButtonPress : Statement .stopButtonPress := by
  intro _ s e; cases e
theorem stopButtonRelease : Statement .stopButtonRelease := by
  intro _ s e; cases e
theorem holdTimerExpiry : Statement .holdTimerExpiry := by
  intro _ s e; cases e
theorem headTemperatureRise : Statement .headTemperatureRise := by
  intro _ s e; cases e
theorem headTemperatureFall : Statement .headTemperatureFall := by
  intro _ s e; cases e
theorem heatTimerExpiry : Statement .heatTimerExpiry := by
  intro _ s e; cases e
theorem debitComplete (readBack : Bool) : Statement (.debitComplete readBack) := by
  intro _ s e; cases e
theorem lotInComplete (readBack : Bool) : Statement (.lotInComplete readBack) := by
  intro _ s e; cases e
theorem refillComplete (readBack : Bool) : Statement (.refillComplete readBack) := by
  intro _ s e; cases e
theorem lotOutStartComplete (readBack : Bool) : Statement (.lotOutStartComplete readBack) := by
  intro _ s e; cases e
theorem lotOutEndComplete (readBack : Bool) : Statement (.lotOutEndComplete readBack) := by
  intro _ s e; cases e
theorem settleNotTakenComplete (readBack : Bool) : Statement (.settleNotTakenComplete readBack) := by
  intro _ s e; cases e
theorem runMarkComplete (readBack : Bool) : Statement (.runMarkComplete readBack) := by
  intro _ s e; cases e
theorem journalAppendComplete (readBack : Bool) : Statement (.journalAppendComplete readBack) := by
  intro _ s e; cases e
theorem rateBegin (addressed : Bool) (generation : Nat) (effective : Date) (rounding zones : Nat) :
    Statement (.rateBegin addressed generation effective rounding zones) := by
  intro _ s e; cases e
theorem rateLoad (addressed : Bool) (generation index : Nat) (segment : Segment) :
    Statement (.rateLoad addressed generation index segment) := by
  intro _ s e; cases e
theorem rateFinish (addressed : Bool) (generation count check : Nat) :
    Statement (.rateFinish addressed generation count check) := by
  intro _ s e; cases e
theorem rateDrop (addressed : Bool) (generation : Nat) : Statement (.rateDrop addressed generation) := by
  intro _ s e; cases e
theorem bankSwitchEntryJoin : Statement .bankSwitchEntryJoin := by
  intro _ s e; cases e
theorem settle (r : SettleRecord) : Statement (.settle r) := by
  intro _ s e; cases e
theorem refill (serial amount : Nat) : Statement (.refill serial amount) := by
  intro _ s e; cases e
theorem dateSet (addressed : Bool) (date : Date) (time : TimeOfDay) :
    Statement (.dateSet addressed date time) := by
  intro _ s e; cases e
theorem dateSetEntryJoin : Statement .dateSetEntryJoin := by
  intro _ s e; cases e
theorem postdate (addressed : Bool) (offset : Nat) : Statement (.postdate addressed offset) := by
  intro _ s e; cases e
theorem lineRun (addressed : Bool) : Statement (.lineRun addressed) := by
  intro _ s e; cases e
theorem lineStop (addressed : Bool) : Statement (.lineStop addressed) := by
  intro _ s e; cases e
theorem resume : Statement .resume := by
  intro _ s e; cases e
theorem throttle (addressed : Bool) (factor : Nat) : Statement (.throttle addressed factor) := by
  intro _ s e; cases e
theorem poll (page : Nat) : Statement (.poll page) := by
  intro _ s e; cases e
theorem clear (faults counters : Nat) : Statement (.clear faults counters) := by
  intro _ s e; cases e
theorem journalRead (n : Nat) : Statement (.journalRead n) := by
  intro _ s e; cases e
theorem remit (dest amount : Nat) : Statement (.remit dest amount) := by
  intro _ s e; cases e
theorem holdingsReceived (src : Nat) (h : HoldingsFrame) : Statement (.holdingsReceived src h) := by
  intro h s e; cases e; simp_all [Instr.wellFormed]
theorem creditAskReceived (src amount : Nat) : Statement (.creditAskReceived src amount) := by
  intro h s e; cases e; simp_all [Instr.wellFormed]
theorem lotPassReceived (src passage amount purpose : Nat) :
    Statement (.lotPassReceived src passage amount purpose) := by
  intro h s e; cases e; simp_all [Instr.wellFormed]
theorem lotPassHeard (src dest passage amount purpose : Nat) (ackSeen : Bool) :
    Statement (.lotPassHeard src dest passage amount purpose ackSeen) := by
  intro h s e; cases e; simp_all [Instr.wellFormed]
theorem passQueryReceived (src passage : Nat) : Statement (.passQueryReceived src passage) := by
  intro h s e; cases e; simp_all [Instr.wellFormed]
theorem passAnswerReceived (src passage outcome : Nat) :
    Statement (.passAnswerReceived src passage outcome) := by
  intro h s e; cases e; simp_all [Instr.wellFormed]
theorem dayTurnReceived (src : Nat) (date : Date) : Statement (.dayTurnReceived src date) := by
  intro h s e; cases e; simp_all [Instr.wellFormed]
theorem hushReceived (src : Nat) : Statement (.hushReceived src) := by
  intro h s e; cases e; simp_all [Instr.wellFormed]
theorem holdReceived (src : Nat) : Statement (.holdReceived src) := by
  intro h s e; cases e; simp_all [Instr.wellFormed]
theorem wakeReceived (src : Nat) : Statement (.wakeReceived src) := by
  intro h s e; cases e; simp_all [Instr.wellFormed]
theorem frameDamaged : Statement .frameDamaged := by
  intro _ s e; cases e
theorem gapExpiry : Statement .gapExpiry := by
  intro _ s e; cases e
theorem arbitrationLoss : Statement .arbitrationLoss := by
  intro _ s e; cases e
theorem lotPassTurn : Statement .lotPassTurn := by
  intro _ s e; cases e
theorem frameSent : Statement .frameSent := by
  intro _ s e; cases e
theorem lotPassSent (ackSeen : Bool) : Statement (.lotPassSent ackSeen) := by
  intro _ s e; cases e
theorem passQuerySent : Statement .passQuerySent := by
  intro _ s e; cases e
theorem hushSent : Statement .hushSent := by
  intro _ s e; cases e
theorem holdSent : Statement .holdSent := by
  intro _ s e; cases e
theorem statusSent : Statement .statusSent := by
  intro _ s e; cases e
theorem journalSent : Statement .journalSent := by
  intro _ s e; cases e
theorem yieldTimeout : Statement .yieldTimeout := by
  intro _ s e; cases e
theorem linkStuck : Statement .linkStuck := by
  intro _ s e; cases e
theorem linkStuckEnd : Statement .linkStuckEnd := by
  intro _ s e; cases e
theorem askDeadline : Statement .askDeadline := by
  intro _ s e; cases e
theorem backOffEnd : Statement .backOffEnd := by
  intro _ s e; cases e
theorem mirrorTimerExpiry (station : Nat) : Statement (.mirrorTimerExpiry station) := by
  intro _ s e; cases e
theorem queryTimerExpiry : Statement .queryTimerExpiry := by
  intro _ s e; cases e
theorem clockUpdateStart : Statement .clockUpdateStart := by
  intro _ s e; cases e
theorem clockUpdateComplete : Statement .clockUpdateComplete := by
  intro _ s e; cases e
theorem idleTimerExpiry : Statement .idleTimerExpiry := by
  intro _ s e; cases e
theorem objectionWindowEnd : Statement .objectionWindowEnd := by
  intro _ s e; cases e
theorem powerLoss : Statement .powerLoss := by
  intro _ s e; cases e
theorem defer : Statement .defer := by
  intro _ s e; cases e
theorem frameDisregarded (frame : Disregarded) : Statement (.frameDisregarded frame) := by
  intro _ s e; cases e

end Sys2Proof.Laws.FrameSource
end

