-- ==== Sys2Proof/Laws/Replies.lean ====
section
/-! SUPPORT. What the operations behind a station's replies and lots do, said once: masks (R170), the entries of a
JOURNAL (R164), the passage slot that empties (R130, R139), the mirror's order (R129), the surcharge condition
(R43), the borrower chosen (R130), a change of lane state (R152), the asking and the lending test (R127, R130), JOURNAL
WRAP (R165). -/

namespace Sys2Proof.Machine

/-! ### Masks -/

/-- Bit `n` of a mask is its `n`-th condition (R170). -/
theorem maskOf_testBit (l : List Bool) (n : Nat) : (maskOf l).testBit n = (l[n]?).getD false := by
  induction l generalizing n with
  | nil => simp [maskOf]
  | cons b rest ih =>
    cases n with
    | zero => cases b <;> simp [maskOf, Nat.testBit_zero, Nat.add_mod]
    | succ n =>
      rw [Nat.testBit_succ, List.getElem?_cons_succ, ← ih n]
      congr 1
      cases b <;> simp [maskOf] <;> omega

theorem orders_testBit (l : List StickyFault) (m n : Nat) :
    (l.foldl (fun m f => m ||| 2 ^ (f.order - 1)) m).testBit n =
      (m.testBit n || l.any (fun f => f.order - 1 == n)) := by
  induction l generalizing m with
  | nil => simp
  | cons f fs ih =>
    rw [List.foldl_cons, ih, Nat.testBit_or, List.any_cons, Bool.or_assoc]
    congr 2
    rw [Nat.testBit_two_pow]
    rfl

theorem order_pos (f : StickyFault) : 1 ≤ f.order := by cases f <;> simp [StickyFault.order]

/-- Bit n - 1 of the fault mask tells whether the fault of order n is held (R170). -/
theorem mask_testBit (st : Status) (n : Nat) (h : 1 ≤ n) : st.mask.testBit (n - 1) = st.holds n := by
  unfold Status.mask Status.holds
  rw [orders_testBit, Nat.zero_testBit, Bool.false_or]
  congr 1
  funext f
  have := order_pos f
  rw [Bool.eq_iff_iff, beq_iff_eq, beq_iff_eq]
  omega

/-! ### The entries of a JOURNAL -/

/-- The bytes of entries together. -/
def sizeOfEntries (l : List Placed) : Nat := (l.map (fun e => e.entry.bytes.length)).sum

/-- The entries that fit are the longest beginning of at most `n` entries within the room (R164). -/
theorem fitting_eq_take (n room : Nat) (l : List Placed) :
    ∃ k, k ≤ n ∧ k ≤ l.length ∧ sizeOfEntries (l.take k) ≤ room ∧
      (k = n ∨ k = l.length ∨ room < sizeOfEntries (l.take (k + 1))) ∧ fitting n room l = l.take k := by
  induction n generalizing room l with
  | zero => exact ⟨0, by simp, by simp, by simp [sizeOfEntries], by simp, by simp [fitting]⟩
  | succ n ih =>
    cases l with
    | nil => exact ⟨0, by simp, by simp, by simp [sizeOfEntries], by simp, by simp [fitting]⟩
    | cons e rest =>
      by_cases h : e.entry.bytes.length ≤ room
      · obtain ⟨k, a, b, c, d, f⟩ := ih (room - e.entry.bytes.length) rest
        refine ⟨k + 1, by omega, by simp; omega, ?_, ?_, ?_⟩
        · simp only [List.take_succ_cons, sizeOfEntries, List.map_cons, List.sum_cons] at c ⊢
          omega
        · rcases d with d | d | d
          · left; omega
          · right; left; simp [d]
          · right; right
            simp only [List.take_succ_cons, sizeOfEntries, List.map_cons, List.sum_cons] at d ⊢
            omega
        · simp [fitting, h, f]
      · refine ⟨0, by omega, by omega, by simp [sizeOfEntries], ?_, by simp [fitting, h]⟩
        right; right
        simp [sizeOfEntries]; omega

/-! ### The passage slot empties -/

/-- What stands in a passage slot that has become empty: a remit's waiting step, a lender's LOT PASS, or
nothing (R130, R139). -/
theorem passageEmptied_eq (s : State) (e : s.link.full .passage = false) :
    s.passageEmptied =
      if s.credit.remit ≠ none ∧ s.funds.store.outbound = none then
        s.request .passage (.lotPass .remit .waiting)
      else if s.lendingHolds = true then s.request .passage (.lotPass .ask .waiting)
      else s := by
  have lend (t : State) (r : t.credit.remit ≠ none) : t.lendingTest = t := by
    have : t.lendingHolds = false := by
      cases h : t.credit.remit with
      | none => exact absurd h r
      | some x => simp [State.lendingHolds, h]
    simp [State.lendingTest, this]
  unfold State.passageEmptied State.nextRemitStep
  by_cases r : s.credit.remit = none
  · simp [r, State.lendingTest, e]
  · by_cases o : s.funds.store.outbound = none
    · have : s.credit.remit.isSome = true := by
        cases h : s.credit.remit with
        | none => exact absurd h r
        | some x => rfl
      rw [if_pos (show (s.credit.remit.isSome && s.funds.store.outbound.isNone) = true by simp [this, o])]
      rw [if_neg (by simp [e]), if_pos ⟨r, o⟩, lend]
      exact r
    · have : s.funds.store.outbound.isNone = false := by
        cases h : s.funds.store.outbound with
        | none => exact absurd h o
        | some x => rfl
      rw [if_neg (show ¬ (s.credit.remit.isSome && s.funds.store.outbound.isNone) = true by simp [this]),
        if_neg (fun h => o h.2), lend _ r]
      have : s.lendingHolds = false := by simp [State.lendingHolds, this]
      simp [this]

/-- A request in one slot leaves every other as it was. -/
theorem request_other_slot (s : State) (i j : SlotId) (r : Req) (h : j ≠ i) :
    (s.request i r).link.slots.get j = s.link.slots.get j := by
  simp only [State.request, State.mapLink, Link.request]
  split <;> exact slots_get_put_other _ _ _ _ h

/-- A frame sent leaves every slot but its own as it was (R117). -/
theorem sent_other_slot (s : State) (a : Attempt) (j : SlotId) (h : j ≠ a.slot) :
    (s.sent a).link.slots.get j = s.link.slots.get j := by
  have base : (s.mapLink (fun l =>
      { l.setYield a.slot.cls true with
        slots := l.slots.put a.slot .empty,
        attempt := none,
        report := if a.msg.reported then some a else none })).link.slots.get j = s.link.slots.get j :=
    slots_get_put_other _ _ _ _ h
  unfold State.sent
  simp only
  generalize (s.mapLink _) = u at base ⊢
  split
  · next e =>
    rw [e] at h
    rw [← base]
    unfold State.passageEmptied State.nextRemitStep State.lendingTest
    (repeat' split) <;> simp only [request_other_slot _ _ _ _ h]
  · exact base

/-! ### The mirror's order -/

theorem insertEntry_mem {α : Type} (l : List (Nat × α)) (st : Nat) (v : α) (x : Nat × α)
    (h : x ∈ insertEntry l st v) : x = (st, v) ∨ x ∈ l := by
  induction l with
  | nil => simp [insertEntry] at h; exact .inl h
  | cons e rest ih =>
    obtain ⟨k, w⟩ := e
    unfold insertEntry at h
    split at h
    · exact List.mem_cons.1 h
    · split at h
      · rcases List.mem_cons.1 h with h | h
        · exact .inl h
        · exact .inr (List.mem_cons_of_mem _ h)
      · rcases List.mem_cons.1 h with h | h
        · exact .inr (h ▸ List.mem_cons_self)
        · rcases ih h with h | h
          · exact .inl h
          · exact .inr (List.mem_cons_of_mem _ h)
/-- A table in rising order stays so with an entry made or replaced. -/
theorem insertEntry_rising {α : Type} (l : List (Nat × α)) (st : Nat) (v : α)
    (h : l.Pairwise (fun a b => a.1 < b.1)) : (insertEntry l st v).Pairwise (fun a b => a.1 < b.1) := by
  induction l with
  | nil => simp [insertEntry]
  | cons e rest ih =>
    obtain ⟨k, w⟩ := e
    rw [List.pairwise_cons] at h
    unfold insertEntry
    split
    · rename_i lt
      rw [List.pairwise_cons, List.pairwise_cons]
      refine ⟨?_, h⟩
      intro x hx
      rcases List.mem_cons.1 hx with rfl | hx
      · exact lt
      · exact Nat.lt_trans lt (h.1 x hx)
    · split
      · rename_i eq
        subst eq
        rw [List.pairwise_cons]
        exact ⟨h.1, h.2⟩
      · rw [List.pairwise_cons]
        refine ⟨?_, ih h.2⟩
        intro x hx
        rcases insertEntry_mem rest st v x hx with rfl | hx
        · show k < st; omega
        · exact h.1 x hx
/-- A table in rising order stays so with an entry dropped. -/
theorem dropEntry_rising {α : Type} (l : List (Nat × α)) (st : Nat)
    (h : l.Pairwise (fun a b => a.1 < b.1)) : (dropEntry l st).Pairwise (fun a b => a.1 < b.1) :=
  h.filter _

/-! ### The condition of a surcharge -/

/-- The condition a kind and a threshold give (R43). -/
theorem conditionOf_eq_some (kind threshold zones : Nat) (c : Condition) :
    conditionOf kind threshold zones = some c ↔
      (kind = 1 ∧ threshold ≤ 255 ∧ c = .service threshold) ∨
      (kind = 2 ∧ threshold ≤ 6000 ∧ c = .thicknessOver threshold) ∨
      (kind = 3 ∧ threshold ≤ 40000 ∧ c = .lengthOver threshold) ∨
      (kind = 4 ∧ threshold ≤ 20000 ∧ c = .weightOver threshold) ∨
      (kind = 5 ∧ 1 ≤ threshold / 256 ∧ threshold / 256 ≤ threshold % 256 ∧ threshold % 256 ≤ zones ∧
        c = .zoneRange (threshold / 256) (threshold % 256)) := by
  unfold conditionOf
  constructor
  · intro h
    split at h
    · split at h
      · exact .inl ⟨rfl, by assumption, (Option.some.inj h).symm⟩
      · exact absurd h (by simp)
    · split at h
      · exact .inr (.inl ⟨rfl, by assumption, (Option.some.inj h).symm⟩)
      · exact absurd h (by simp)
    · split at h
      · exact .inr (.inr (.inl ⟨rfl, by assumption, (Option.some.inj h).symm⟩))
      · exact absurd h (by simp)
    · split at h
      · exact .inr (.inr (.inr (.inl ⟨rfl, by assumption, (Option.some.inj h).symm⟩)))
      · exact absurd h (by simp)
    · dsimp only at h
      split at h
      · rename_i r
        exact .inr (.inr (.inr (.inr ⟨rfl, r.1, r.2.1, r.2.2, (Option.some.inj h).symm⟩)))
      · exact absurd h (by simp)
    · exact absurd h (by simp)
  · rintro (⟨rfl, h, rfl⟩ | ⟨rfl, h, rfl⟩ | ⟨rfl, h, rfl⟩ | ⟨rfl, h, rfl⟩ | ⟨rfl, a, b, c, rfl⟩)
    · exact if_pos h
    · exact if_pos h
    · exact if_pos h
    · exact if_pos h
    · exact if_pos ⟨a, b, c⟩

/-! ### The borrower chosen (R130) -/

/-- Once a borrower stands, the choice goes on with one. -/
theorem chosen_stays (s : State) (l : List (Nat × Mirrored)) (b : Nat × Mirrored) :
    l.foldl
      (fun best e =>
        match best with
        | none => some e
        | some b => if ranksBefore (s.borrowerRank e.1) (s.borrowerRank b.1) then some e else some b)
      (some b) ≠ none := by
  induction l generalizing b with
  | nil => simp
  | cons a t ih => simp only [List.foldl_cons]; split <;> exact ih _

/-! ### A change of lane state (R152) -/

/-- The asking test leaves the pacing unit as it was. -/
@[simp] theorem askingTest_pacing (s : State) : s.askingTest.pacing = s.pacing := by
  unfold State.askingTest State.openAsk State.askHoldings
  (repeat' split) <;> rfl

/-- The end of an ask leaves the pacing unit as it was. -/
@[simp] theorem closeAsk_pacing (s : State) : s.closeAsk.pacing = s.pacing := by
  unfold State.closeAsk State.askHoldings
  (repeat' split) <;> rfl

/-- A request for a HOLDINGS leaves the pacing unit as it was. -/
@[simp] theorem askHoldings_pacing (s : State) (fresh : Bool) : (s.askHoldings fresh).pacing = s.pacing := by
  unfold State.askHoldings
  split <;> rfl

/-- The pacing unit after a change of lane state (R152, R160). -/
theorem setLane_pacing (s : State) (new : Lane) :
    (s.setLane new).pacing =
      if !s.pacing.lane.moving && new.moving && s.pacing.hot then
        { s.pacing.enter new with heatTimer := some Config.heatSpan }
      else s.pacing.enter new := by
  unfold State.setLane
  cases new <;> simp [State.claim, Lane.moving]

/-! ### The asking and the lending test -/

/-- When the asking test holds (R127). -/
theorem askingHolds_iff (s : State) : s.askingHolds = true ↔ ∃ g, s.pacing.settings = some g ∧
    s.pacing.lane.moving = true ∧
    (s.funds.store.available - s.funds.reserved < g.lowMark ∨ s.funds.unfunded ≠ []) := by
  unfold State.askingHolds
  cases h : s.pacing.settings <;> simp
  exact fun _ => Iff.rfl
/-- An asking test that does not hold only ends CREDIT SHORT (R128). -/
theorem askingTest_fails (s : State) (h : s.askingHolds = false) :
    s.askingTest = { s with credit := { s.credit with creditShort := false } } := by
  simp [State.askingTest, h, State.mapCredit]
/-- One that holds at a station free to ask opens an ask (R127). -/
theorem askingTest_opens (s : State) (g : Settings) (h : s.askingHolds = true) (p : s.pacing.settings = some g)
    (m : s.link.mute = false) (a : s.credit.ask = none) (r : s.credit.remit = none)
    (b : s.credit.backOff = none) : s.askingTest = s.openAsk g.askAmount g.askTimeout := by
  simp [State.askingTest, h, p, m, a, r, b]
/-- One that holds at a station not free to ask changes nothing (R127). -/
theorem askingTest_stays (s : State) (h : s.askingHolds = true)
    (n : ¬ (s.credit.ask = none ∧ s.link.mute = false ∧ s.credit.remit = none ∧ s.credit.backOff = none)) :
    s.askingTest = s := by
  unfold State.askingTest
  rw [if_pos h]
  split
  · rw [if_neg]
    intro c
    simp only [Bool.and_eq_true, Bool.not_eq_true', Option.isNone_iff_eq_none] at c
    exact n ⟨c.1.1.2, c.1.1.1, c.1.2, c.2⟩
  · rfl
/-- A lending test that holds with the slot empty places a LOT PASS (R130). -/
theorem lendingTest_places (s : State) (h : s.lendingHolds = true) (e : s.link.full .passage = false) :
    s.lendingTest = s.request .passage (.lotPass .ask .waiting) := by simp [State.lendingTest, h, e]
/-- Any other changes nothing (R130). -/
theorem lendingTest_stays (s : State) (h : s.lendingHolds = false ∨ s.link.full .passage = true) : s.lendingTest = s := by
  rcases h with h | h <;> simp [State.lendingTest, h]

/-! ### JOURNAL WRAP -/

/-- What a write that places an entry does to JOURNAL WRAP (R165). -/
theorem wrapFault_of_placing (s : State) (c : Claim) (h : c.places = true) :
    s.wrapFault c =
      if 1024 ≤ s.funds.store.ring.length then
        match s.funds.store.ring.head? with
        | some e => if s.status.readMarker < e.number then s.raise (.journalWrap e.number) else s
        | none => s
      else s := by
  unfold State.wrapFault Store.displaced
  rw [if_pos h]
  by_cases l : 1024 ≤ s.funds.store.ring.length
  · have l' : Config.ringSize ≤ s.funds.store.ring.length := l
    cases e : s.funds.store.ring.head? <;> simp [l, l']
  · have l' : ¬ Config.ringSize ≤ s.funds.store.ring.length := l
    simp [l, l']
/-- A write that places none does nothing to it (R165). -/
theorem wrapFault_of_other (s : State) (c : Claim) (h : c.places = false) : s.wrapFault c = s := by
  simp [State.wrapFault, h]

end Sys2Proof.Machine
end

