-- ==== Sys2Proof/Tests/Slice0.lean ====
section
/-! SUPPORT. The model's own tests: ill-formed commands, frames by their bytes, one step of each family, and
for each obligation with hypotheses a concrete state that meets them. -/

namespace Sys2Proof.Tests
open Sys2Proof Sys2Proof.Machine

/-! ### Small states -/

/-- The record of the manual's lane, all values in range. -/
def record1 : SettleRecord :=
  { p0 := 400, p1 := 1600, bar := 1900, decision := 2400, arm := 3200, print := 3600, exit := 4400,
    window := 200, tolerance := 40, settleDistance := 100, gap := 1200, notePresent := false,
    noteCount := 0, noteClass := 0, noteZone := 0, noteServices := [0, 0, 0, 0], feedFloor := 200,
    referenceZero := 1250, minSamples := 8, steadiness := 30, lowMark := 300, keepAmount := 5000,
    askAmount := 3000, askTimeout := 2000, lineId := 7, idleSpan := 30, heatFactor := 4,
    creditFactor := 2 }

/-- Its settings. -/
def g1 : Settings := settingsOf record1

/-- A configured station in a lane state: 20,000 available, a valid clock, the head READY. -/
def lane (l : Lane) : State :=
  { State.reset with
    io := { Io.afterReset with encoder := 100000 },
    pacing := { State.reset.pacing with lane := l, settings := some g1 },
    weigh := { Weigh.afterReset with zero := some (List.replicate 16 1250) },
    clock := { State.reset.clock with date := ⟨2031, 4, 1⟩, time := ⟨9, 0, 0⟩, invalid := false },
    print := { State.reset.print with headReady := true },
    funds := { State.reset.funds with store := { Store.shipped with available := 20000 } },
    status := Status.afterReset }

/-- A record of tag 7, its lead `before` counts behind the belt's count. -/
def piece (st : PieceState) (before : Nat) : Piece :=
  { tag := 7, lead := 100000 - BitVec.ofNat 32 before, trail := some (100500 - BitVec.ofNat 32 before),
    length := some 2500, note := some ⟨9, 4, [7], false⟩, weight := some 640, width := some 1000,
    thickness := some 40, sampled := some ⟨2031, 4, 1⟩, printed := some ⟨2031, 4, 1⟩,
    generation := some 42, postage := some 1200, reserved := true, pieceNumber := none, state := st,
    reason := none, imprint := none, marks := ⟨false, false, false, false, false, false⟩ }

/-- The record with its length and trail still absent. -/
def entering (st : PieceState) : Piece :=
  { piece st 400 with trail := none, length := none, weight := none, width := none, thickness := none,
                      sampled := none, printed := none, generation := none, postage := none,
                      reserved := false }

/-- A station with one record on its track. -/
def carrying (l : Lane) (p : Piece) : State :=
  { lane l with
    track := { Track.afterReset with records := [p], tagCounter := 8 },
    funds := { (lane l).funds with reserved := if p.reserved then 1200 else 0 } }

/-- A station with a write in progress. -/
def writing (s : State) (c : Claim) : State :=
  { s with funds := { s.funds with arbiter := { Arbiter.free with writing := some c } } }

/-- A station with a frame being sent, or sent and not reported. -/
def attempting (s : State) (i : SlotId) (m : Msg) : State :=
  { s with link := { s.link with
    slots := s.link.slots.put i (.holding .hold), attempt := some ⟨i, 0, m, 50⟩ } }
/-- A station with a frame sent and not yet reported. -/
def reporting (s : State) (i : SlotId) (m : Msg) : State :=
  { s with link := { s.link with report := some ⟨i, 3, m, 50⟩ } }

/-- A bank with one class of one break. -/
def bank1 (st : BankState) : Bank :=
  { state := st, generation := some 42, effective := some ⟨2031, 4, 1⟩, rounding := 5, zones := 6,
    classes := [{ code := 9, maxWeight := 5000, maxLength := 6000, maxWidth := 4000, maxThickness := 1600,
                  breaks := [{ limit := 1000, prices := [some 520, some 560, some 600, some 680, some 720, none] }] }],
    surcharges := [], named := false }

/-- A station with that bank as bank A. -/
def tariffed (s : State) (st : BankState) : State := { s with rate := { s.rate with bankA := bank1 st } }

/-- The next state of a command. -/
def next (c : Instr) (s : State) : State :=
  match exec c s with
  | .next t => t
  | _ => s

/-! ### Ill-formed commands -/

/-- Reset inputs with a strap value. -/
def inputs (strap : Nat) : StartInputs :=
  { strap := strap, checksPass := true, writeGood := true, button := false, hot := false }

theorem test_illformed_strap : (Instr.powerUp true (inputs 16)).wellFormed = false := by decide
theorem test_illformed_warm : (Instr.warmReset true (inputs 16)).wellFormed = false := by decide
theorem test_illformed_tags :
    (Instr.platformStartEvent 256).wellFormed = false ∧ (Instr.windowOpening 256).wellFormed = false ∧
      (Instr.platformEndEvent 256).wellFormed = false ∧ (Instr.platformLeaving 256).wellFormed = false ∧
      (Instr.barEvent 256).wellFormed = false ∧ (Instr.dateSampleAnswer 256).wellFormed = false ∧
      (Instr.decisionEvent 256).wellFormed = false ∧ (Instr.armEvent 256).wellFormed = false ∧
      (Instr.endOfPrintWindow 256).wellFormed = false := by decide
theorem test_illformed_lane_port :
    (Instr.scaleSample 300001).wellFormed = false ∧ (Instr.barReading 65536 0).wellFormed = false ∧
      (Instr.barReading 0 65536).wellFormed = false ∧ (Instr.noteArrival 256 0 []).wellFormed = false ∧
      (Instr.noteArrival 0 256 []).wellFormed = false ∧ (Instr.noteArrival 0 0 [256]).wellFormed = false ∧
      (Instr.printDone 4294967296).wellFormed = false ∧ (Instr.printFault 4294967296 1).wellFormed = false ∧
      (Instr.printFault 1 256).wellFormed = false := by decide
theorem test_illformed_services : (Instr.noteArrival 0 0 (List.replicate 256 1)).wellFormed = false := by
  simp only [Instr.wellFormed, List.length_replicate, show ¬ (256 ≤ 255) by decide, decide_false,
    Bool.and_false, Bool.false_and]
theorem test_illformed_rate :
    (Instr.rateBegin true 65536 ⟨2031, 4, 1⟩ 5 6).wellFormed = false ∧
      (Instr.rateBegin true 1 ⟨1999, 4, 1⟩ 5 6).wellFormed = false ∧
      (Instr.rateBegin true 1 ⟨2031, 256, 1⟩ 5 6).wellFormed = false ∧
      (Instr.rateBegin true 1 ⟨2031, 4, 256⟩ 5 6).wellFormed = false ∧
      (Instr.rateBegin true 1 ⟨2256, 4, 1⟩ 5 6).wellFormed = false ∧
      (Instr.rateBegin true 1 ⟨2031, 4, 1⟩ 65536 6).wellFormed = false ∧
      (Instr.rateBegin true 1 ⟨2031, 4, 1⟩ 5 256).wellFormed = false ∧
      (Instr.rateFinish true 65536 1 1).wellFormed = false ∧ (Instr.rateFinish true 1 256 1).wellFormed = false ∧
      (Instr.rateFinish true 1 1 65536).wellFormed = false ∧ (Instr.rateDrop true 65536).wellFormed = false ∧
      (Instr.rateLoad true 65536 0 (.breakRow 1 [])).wellFormed = false ∧
      (Instr.rateLoad true 1 256 (.breakRow 1 [])).wellFormed = false := by decide
theorem test_illformed_segments :
    (Segment.classHeader 256 1 1 1 1).spelled = false ∧ (Segment.classHeader 1 65536 1 1 1).spelled = false ∧
      (Segment.classHeader 1 1 65536 1 1).spelled = false ∧ (Segment.classHeader 1 1 1 65536 1).spelled = false ∧
      (Segment.classHeader 1 1 1 1 65536).spelled = false ∧ (Segment.breakRow 65536 []).spelled = false ∧
      (Segment.breakRow 1 (List.replicate 15 0)).spelled = false ∧
      (Segment.breakRow 1 [16777216]).spelled = false ∧
      (Segment.surcharge 256 (List.replicate 8 0) 1 1 1 1 1).spelled = false ∧
      (Segment.surcharge 1 (List.replicate 7 0) 1 1 1 1 1).spelled = false ∧
      (Segment.surcharge 1 (List.replicate 8 256) 1 1 1 1 1).spelled = false ∧
      (Segment.surcharge 1 (List.replicate 8 0) 256 1 1 1 1).spelled = false ∧
      (Segment.surcharge 1 (List.replicate 8 0) 1 65536 1 1 1).spelled = false ∧
      (Segment.surcharge 1 (List.replicate 8 0) 1 1 16777216 1 1).spelled = false ∧
      (Segment.surcharge 1 (List.replicate 8 0) 1 1 1 16777216 1).spelled = false ∧
      (Segment.surcharge 1 (List.replicate 8 0) 1 1 1 1 65536).spelled = false := by decide
theorem test_illformed_settle :
    [{ record1 with p0 := 16384 }, { record1 with p1 := 16384 }, { record1 with bar := 16384 },
     { record1 with decision := 16384 }, { record1 with arm := 16384 }, { record1 with print := 16384 },
     { record1 with exit := 16384 }, { record1 with window := 2048 }, { record1 with tolerance := 512 },
     { record1 with settleDistance := 2048 }, { record1 with gap := 4096 }, { record1 with noteCount := 8 },
     { record1 with noteClass := 256 }, { record1 with noteZone := 256 }, { record1 with noteServices := [0] },
     { record1 with noteServices := [256, 0, 0, 0] }].all (fun r => !(Instr.settle r).wellFormed) = true := by
  decide
theorem test_illformed_settle_funds :
    [{ record1 with feedFloor := 134217728 }, { record1 with referenceZero := 65536 },
     { record1 with minSamples := 64 }, { record1 with steadiness := 512 }, { record1 with lowMark := 134217728 },
     { record1 with keepAmount := 1073741824 }, { record1 with askAmount := 134217728 },
     { record1 with askTimeout := 16384 }, { record1 with lineId := 65536 }, { record1 with idleSpan := 1024 },
     { record1 with heatFactor := 16 }, { record1 with creditFactor := 16 }].all
      (fun r => !(Instr.settle r).wellFormed) = true := by decide
theorem test_illformed_console :
    (Instr.refill 65536 1).wellFormed = false ∧ (Instr.refill 1 4294967296).wellFormed = false ∧
      (Instr.dateSet true ⟨1999, 1, 1⟩ ⟨0, 0, 0⟩).wellFormed = false ∧
      (Instr.dateSet true ⟨2031, 1, 1⟩ ⟨256, 0, 0⟩).wellFormed = false ∧
      (Instr.dateSet true ⟨2031, 1, 1⟩ ⟨0, 256, 0⟩).wellFormed = false ∧
      (Instr.dateSet true ⟨2031, 1, 1⟩ ⟨0, 0, 256⟩).wellFormed = false ∧
      (Instr.postdate true 256).wellFormed = false ∧ (Instr.throttle true 256).wellFormed = false ∧
      (Instr.poll 256).wellFormed = false ∧ (Instr.clear 4294967296 0).wellFormed = false ∧
      (Instr.clear 0 256).wellFormed = false ∧ (Instr.journalRead 4294967296).wellFormed = false ∧
      (Instr.remit 256 1).wellFormed = false ∧ (Instr.remit 1 4294967296).wellFormed = false := by decide
/-- A HOLDINGS of another station. -/
def holdings1 : HoldingsFrame :=
  { fresh := true, lane := 2, available := 500, reserved := 0, outbound := 0, currentGen := 42,
    pendingGen := 0, askRemaining := 0, date := ⟨2031, 4, 1⟩ }
theorem test_illformed_stations :
    (Instr.holdingsReceived 0 holdings1).wellFormed = false ∧
      (Instr.holdingsReceived 3 { holdings1 with lane := 8 }).wellFormed = false ∧
      (Instr.holdingsReceived 3 { holdings1 with available := 4294967296 }).wellFormed = false ∧
      (Instr.holdingsReceived 3 { holdings1 with reserved := 4294967296 }).wellFormed = false ∧
      (Instr.holdingsReceived 3 { holdings1 with outbound := 4294967296 }).wellFormed = false ∧
      (Instr.holdingsReceived 3 { holdings1 with currentGen := 65536 }).wellFormed = false ∧
      (Instr.holdingsReceived 3 { holdings1 with pendingGen := 65536 }).wellFormed = false ∧
      (Instr.holdingsReceived 3 { holdings1 with askRemaining := 4294967296 }).wellFormed = false ∧
      (Instr.creditAskReceived 15 1).wellFormed = false ∧
      (Instr.creditAskReceived 1 4294967296).wellFormed = false ∧
      (Instr.mirrorTimerExpiry 0).wellFormed = false ∧ (Instr.frameDisregarded ⟨256, true⟩).wellFormed = false := by
  decide
theorem test_illformed_passages :
    (Instr.lotPassReceived 0 1 1 1).wellFormed = false ∧
      (Instr.lotPassReceived 3 4294967296 1 1).wellFormed = false ∧
      (Instr.lotPassReceived 3 1 4294967296 1).wellFormed = false ∧
      (Instr.lotPassReceived 3 1 1 256).wellFormed = false ∧
      (Instr.lotPassHeard 0 4 1 1 1 true).wellFormed = false ∧
      (Instr.lotPassHeard 3 0 1 1 1 true).wellFormed = false ∧
      (Instr.lotPassHeard 3 4 4294967296 1 1 true).wellFormed = false ∧
      (Instr.lotPassHeard 3 4 1 4294967296 1 true).wellFormed = false ∧
      (Instr.lotPassHeard 3 4 1 1 256 true).wellFormed = false ∧
      (Instr.passQueryReceived 0 1).wellFormed = false ∧
      (Instr.passQueryReceived 3 4294967296).wellFormed = false ∧
      (Instr.passAnswerReceived 0 1 1).wellFormed = false ∧
      (Instr.passAnswerReceived 3 4294967296 1).wellFormed = false ∧
      (Instr.passAnswerReceived 3 1 256).wellFormed = false ∧
      (Instr.dayTurnReceived 0 ⟨2031, 4, 2⟩).wellFormed = false ∧
      (Instr.dayTurnReceived 3 ⟨1999, 4, 2⟩).wellFormed = false ∧ (Instr.hushReceived 0).wellFormed = false ∧
      (Instr.holdReceived 15).wellFormed = false ∧ (Instr.wakeReceived 15).wellFormed = false := by decide
theorem test_wellformed : (Instr.settle record1).wellFormed = true ∧
    (Instr.holdingsReceived 14 holdings1).wellFormed = true ∧
    (Instr.powerUp false (inputs 15)).wellFormed = true := by decide

/-! ### Frames and lane port messages, by their bytes -/

/-- Bytes written as numbers. -/
def bytes (l : List Nat) : List Byte := l.map (BitVec.ofNat 8)

theorem test_frame_line_run : receive 5 false (bytes [0xA5, 0x38, 15, 5, 0, 254, 225]) = .lineRun true := by
  decide +kernel
theorem test_frame_line_run_broadcast :
    receive 5 false (bytes [0xA5, 0x38, 15, 0, 0, 224, 225]) = .lineRun false := by decide +kernel
theorem test_frame_poll : receive 5 false (bytes [0xA5, 0x3C, 15, 5, 1, 2, 228, 232]) = .poll 2 := by decide +kernel
theorem test_frame_damaged : receive 5 false (bytes [0xA5, 0x3C, 15, 5, 1, 3, 228, 232]) = .frameDamaged := by
  decide +kernel
theorem test_frame_damaged_by_each_test :
    let empty : List Byte := frameBytes 0x3A 15 5 []
    let long : List Byte := be 4 0x3C0F05 ++ be 1 49 ++ be 49 0
    receive 5 false empty = .resume ∧ receive 5 false (0xA4#8 :: empty.drop 1) = .frameDamaged ∧
      receive 5 false (empty.take 4) = .frameDamaged ∧ receive 5 false (empty.take 6) = .frameDamaged ∧
      receive 5 false (empty ++ [0#8]) = .frameDamaged ∧
      receive 5 false (startDelimiter :: long.drop 1 ++ be 2 (checkBytes 0xFFFF#16 (long.drop 1)).toNat) =
        .frameDamaged ∧
      receive 5 false (empty.take 5 ++ be 2 0) = .frameDamaged ∧
      be 2 0 ≠ be 2 (checkBytes 0xFFFF#16 ((empty.take 5).drop 1)).toNat := by decide +kernel
theorem test_frame_lot_pass :
    receive 5 false (bytes [0xA5, 0x11, 3, 5, 9, 0, 0, 0, 9, 0, 0, 7, 208, 1, 127, 86]) =
      .lotPassReceived 3 9 2000 1 ∧
    receive 6 true (bytes [0xA5, 0x11, 3, 5, 9, 0, 0, 0, 9, 0, 0, 7, 208, 1, 127, 86]) =
      .lotPassHeard 3 5 9 2000 1 true := by decide +kernel
theorem test_frame_holdings :
    receive 5 false (bytes [0xA5, 0x20, 3, 0, 24, 130, 0, 0, 1, 244, 0, 0, 0, 0, 0, 0, 0, 0, 0, 42, 0, 0,
      0, 0, 0, 0, 31, 4, 1, 101, 199]) = .holdingsReceived 3 holdings1 := by decide +kernel
theorem test_frame_settle :
    receive 5 false (bytes [0xA5, 0x30, 15, 5, 48, 6, 64, 100, 1, 219, 9, 96, 50, 0, 225, 4, 76, 6, 64,
      160, 50, 37, 128, 0, 0, 0, 0, 0, 0, 0, 0, 12, 128, 78, 34, 3, 192, 0, 4, 176, 0, 1, 56, 128, 0, 23,
      112, 62, 128, 0, 56, 60, 132, 13, 16]) = .settle record1 := by decide +kernel
theorem test_settle_packed :
    be 48 (packFields (settlePacked record1 ++ [(1, 0)])) = bytes [6, 64, 100, 1, 219, 9, 96, 50, 0, 225,
      4, 76, 6, 64, 160, 50, 37, 128, 0, 0, 0, 0, 0, 0, 0, 0, 12, 128, 78, 34, 3, 192, 0, 4, 176, 0, 1, 56,
      128, 0, 23, 112, 62, 128, 0, 56, 60, 132] ∧ record1.spelled = true := by decide +kernel
theorem test_frame_disregarded :
    receive 5 false (frameBytes 0x7F 14 5 []) = .frameDisregarded ⟨14, true⟩ ∧
      receive 5 false (frameBytes 0x12 1 5 []) = .frameDisregarded ⟨1, true⟩ ∧
      receive 5 false (frameBytes 0x12 0 5 []) = .frameDisregarded ⟨0, true⟩ ∧
      receive 5 false (frameBytes 0x22 3 15 []) = .frameDisregarded ⟨3, false⟩ ∧
      receive 5 false (frameBytes 0x3A 16 5 []) = .frameDisregarded ⟨16, true⟩ ∧
      receive 5 false (frameBytes 0x03 255 0 []) = .frameDisregarded ⟨255, false⟩ := by decide +kernel
theorem test_disregarded_premises :
    ¬ (LengthOfKind 0x34 [] ∧ KindCarries 0x34 15 0 5) ∧ ¬ (LengthOfKind 0xFF [] ∧ KindCarries 0xFF 14 15 14) ∧
      ¬ (LengthOfKind 0x22 (be 10 0) ∧ KindCarries 0x22 3 15 5) ∧
      ¬ (LengthOfKind 0x02 (be 3 0) ∧ KindCarries 0x02 15 0 5) ∧
      ¬ (LengthOfKind 0x33 (be 13 0) ∧ KindCarries 0x33 15 5 5) ∧
      ¬ (LengthOfKind 0x3A [] ∧ KindCarries 0x3A 16 5 5) ∧ ¬ (LengthOfKind 0x03 [] ∧ KindCarries 0x03 255 0 5) := by
  simp [LengthOfKind, KindCarries, be]
theorem test_frame_taken_of_kind :
    LengthOfKind 0x33 (bytes [0, 42, 0, 2, 0, 1, 0, 0, 9]) ∧ KindCarries 0x33 15 0 5 ∧
      receive 5 false (frameBytes 0x33 15 0 (bytes [0, 42, 0, 2, 0, 1, 0, 0, 9])) =
        .rateLoad false 42 0 (.breakRow 1 [9]) ∧
      receive 5 false (frameBytes 0x33 15 5 (bytes [0, 42, 0, 4, 0, 1])) = .frameDisregarded ⟨15, true⟩ := by
  refine ⟨.inr ⟨rfl, .inr (.inl ⟨rfl, 1, rfl⟩)⟩, by simp [KindCarries], by decide +kernel, by decide +kernel⟩
theorem test_ports :
    notePort (bytes [1, 9, 4, 1, 7]) = some (.noteArrival 9 4 [7]) ∧
      barPort (bytes [1, 0x03, 0xE8, 0x00, 0x28]) = some (.barReading 1000 40) := by decide +kernel
theorem test_ports_each_message :
    barPort (be 1 2) = some .barNoRead ∧ barPort (bytes [2, 0]) = none ∧ headPort (be 1 0x11) = some .headReady ∧
      headPort (be 1 0x12) = some .headNotReady ∧
      headPort (be 1 0x13 ++ be 4 4294967295) = some (.printDone 4294967295) ∧
      headPort (be 1 0x14 ++ be 4 1201 ++ be 1 255) = some (.printFault 1201 255) ∧
      headPort (be 1 0x15) = none ∧ notePort (bytes [1, 9, 4, 5, 1, 2, 3, 4, 5]) = none ∧
      notePort (bytes [1, 9, 4, 0]) = some (.noteArrival 9 4 []) ∧ notePort (bytes [2, 9, 4, 0]) = none := by
  decide +kernel
theorem test_message_and_entry_bytes :
    let f : PieceFacts :=
      { postage := some 680, weight := some 640, note := some ⟨9, 4, [7], true⟩, generation := some 42,
        printed := some ⟨2031, 4, 1⟩ }
    let none' : PieceFacts :=
      { postage := none, weight := none, note := none, generation := none, printed := none }
    (HeadMessage.abort 0).bytes = bytes [2, 0, 0, 0, 0] ∧
      (HeadMessage.imprint ⟨7, 1, 1201, some ⟨2031, 4, 1⟩, some 680, 9, 4, some 640, some 42, 0x1234⟩).bytes =
        bytes [1, 0, 7, 1, 0, 0, 4, 0xB1, 31, 4, 1, 0, 2, 0xA8, 9, 4, 2, 0x80, 0, 42, 0x12, 0x34] ∧
      (Entry.committed 7 1201 f).bytes =
        bytes [1, 7, 0, 0, 4, 0xB1, 0, 2, 0xA8, 2, 0x80, 9, 4, 1, 0, 42, 31, 4, 1] ∧
      (Entry.diverted 7 (.weighFail .shortWindow) none').bytes =
        bytes [4, 7, 2, 4, 0, 0, 0, 0, 0, 0xFF, 0xFF, 0xFF, 0, 0] ∧
      (Entry.abandoned 7 f).bytes = bytes [5, 7, 2, 2, 0x80, 9, 4, 0, 2, 0xA8, 0, 42, 31, 4, 1] ∧
      (Entry.lotOut 14 3 99999999 .remit).bytes = bytes [9, 0, 0, 0, 3, 0xED, 0xF5, 0xE0, 0xFF] ∧
      (Entry.lotIn 3 4 1).bytes = bytes [8, 0, 0, 0, 4, 0x30, 0, 0, 1] := by decide +kernel
theorem test_StationFrames_premises :
    isStation 1 = true ∧ isStation 14 = true ∧ (5 : Nat) ≠ 6 ∧ fits 4 4294967295 = true ∧
      (Date.mk 2031 4 2).spelled = true ∧ holdings1.spelled = true := by decide
theorem test_ConsoleFrames_premises :
    isStation 14 = true ∧ fits 2 65535 = true ∧ fits 4 4294967295 = true ∧ fits 1 255 = true ∧
      (Date.mk 2099 12 31).spelled = true ∧ (TimeOfDay.mk 23 59 59).spelled = true ∧
      (Segment.surcharge 1 [9, 0, 0, 0, 0, 0, 0, 0] 2 250 40 15 100).spelled = true := by decide

/-! ### The whole part -/

theorem test_step_idle : step State.reset = .next State.reset := rfl
theorem test_step_front : step { State.reset with pending := [.encoderStep .forward, .headReady] } =
    .next { State.reset with pending := [.headReady], io := { State.reset.io with encoder := 1 } } := rfl
theorem test_unmoved_premises :
    writesStore (.poll 1) = false ∧ movesInterface (.poll 1) = false ∧ resets (.poll 1) = false ∧
      isSettle (.poll 1) = false ∧ isClear (.poll 1) = false ∧ actsUnpowered (.poll 1) = false ∧
      (next (.poll 1) State.reset).link.full .reply = true := by decide
theorem test_protected_bank :
    ((tariffed (lane .running) .current).rate.bank .a).isCurrent = true ∧
      ((tariffed (lane .running) .pending).rate.bank .a).isPending = true ∧
      ((tariffed (lane .running) .retiring).rate.bank .a).isRetiring = true := by decide
theorem test_sticky_held :
    (State.reset).status.holds 10 = true ∧ (next .frameDamaged State.reset).status.holds 10 = true := by
  decide
/-- A station with one journal entry and a refill being written. -/
def refilling : State := { writing (lane .ready) (.refill 1 500) with pending := [.refillComplete true] }
theorem test_within_capacity : refilling.withinCapacity ∧ refilling.lotCovered := by
  refine ⟨by unfold State.withinCapacity; decide, ?_⟩
  intro dest amount purpose h
  simp [refilling, writing] at h
theorem test_still_lane : (lane .stopped).trackMatchesLane := fun _ => rfl
theorem test_ring : (next (.refillComplete true) refilling).funds.store.ring.length = 1 ∧
    (next (.refillComplete true) refilling).funds.store.nextJournal = 2 ∧
    (next (.refillComplete true) refilling).funds.store.available = 20500 := by decide
theorem test_journal_sound : State.journalSound (next (.refillComplete true) refilling) := by
  unfold State.journalSound Store.ringSound; decide
theorem test_faults_ordered : (next .frameDamaged State.reset).faultsOrdered := by
  unfold State.faultsOrdered; decide
theorem test_bank_laws : State.bankLaws (tariffed (lane .running) .current) := by
  refine ⟨by decide, by decide, ?_⟩
  intro i e h
  cases i <;> simp [tariffed, lane, Rate.bank, bank1, Bank.isPending, State.reset, State.shipped,
    Rate.afterReset, Bank.shipped] at h

/-! ### The belt -/

theorem test_encoder : (next (.encoderStep .reverse) (lane .running)).io.encoder = 99999 := by decide
theorem test_still_lane_edges :
    (lane .quiet).pacing.lane.moving = false ∧
      (next .infeedLeadEdge (lane .quiet)).io.infeed = ⟨some .lead, some 100000⟩ ∧
      (next (.downstreamLeadEdge .exit) (lane .stopped)).io.exit = ⟨some .lead, some 100000⟩ ∧
      (next (.downstreamTrailEdge .print) (lane .running)).io.print = ⟨some .trail, some 100000⟩ := by decide
/-- A RUNNING lane with its gate open and a note waiting. -/
def opened : State :=
  { lane .running with track := { Track.afterReset with
      gateOpen := true, openingCount := some 96000, noteWaited := true, notes := [⟨9, 4, [7], false⟩] } }
/-- A RUNNING lane whose gate closed `before` counts ago, in grace. -/
def graced (before : Nat) : State :=
  { lane .running with track := { Track.afterReset with grace := some (100000 - BitVec.ofNat 32 before) } }
theorem test_admitted_open :
    opened.powered = true ∧ opened.pacing.lane.moving = true ∧ opened.pacing.settings = some g1 ∧
      opened.track.gateOpen = true ∧ (next .infeedLeadEdge opened).track.records.length = 1 ∧
      (next .infeedLeadEdge opened).track.notes = [] := by decide
theorem test_admitted_grace :
    reached (graced 40).io.encoder ((100000 - 40#32) + BitVec.ofNat 32 g1.geometry.tolerance + 1) = false ∧
      reached (graced 41).io.encoder ((100000 - 41#32) + BitVec.ofNat 32 g1.geometry.tolerance + 1) = true ∧
      (next .infeedLeadEdge (graced 40)).track.records.length = 1 := by decide
theorem test_stray_infeed :
    (graced 41).track.gateOpen = false ∧ (next .infeedLeadEdge (graced 41)).pacing.lane = .stopped ∧
      (next .infeedLeadEdge (graced 41)).status.faults = [.strayPiece .infeed] := by decide
theorem test_trail_completes :
    (carrying .running (entering .entering)).track.records.getLast? = some (entering .entering) ∧
      (carrying .running (entering .entering)).track.find 7 = some (entering .entering) ∧
      (entering .entering).trail = none ∧
      ((next .infeedTrailEdge (carrying .running (entering .entering))).track.find 7).bind Piece.length =
        some 2000 ∧
      ((next .infeedTrailEdge (carrying .running (entering .failed))).track.find 7).map Piece.state =
        some .failed := by decide
/-- A divert hold of the tag. -/
def holding (h : DivertHold) : State :=
  { lane .running with track := { Track.afterReset with divertHold := some h } }
theorem test_trail_for_hold :
    (holding (.onTrail 7)).track.records.getLast? = none ∧
      (next .infeedTrailEdge (holding (.onTrail 7))).track.divertHold = some (.untilCount 102400) ∧
      (next .infeedTrailEdge (lane .running)).track.divertHold = none := by decide
/-- A record expected at both eyes at a count. -/
def expected (l : Lane) (p : Piece) (count : Nat) : State :=
  { carrying l p with track := { (carrying l p).track with
      printExpected := [⟨7, BitVec.ofNat 32 count⟩], exitExpected := [⟨7, BitVec.ofNat 32 count⟩] } }
theorem test_unexpected_edges :
    (expected .running (piece .debited 3600) 100041).track.expected .print = [⟨7, 100041⟩] ∧
      g1.geometry.tolerance < ((100000 : Count) - 100041).toNat ∧
      g1.geometry.tolerance < ((100041 : Count) - 100000).toNat ∧
      (next (.downstreamLeadEdge .print) (expected .running (piece .debited 3600) 100041)).status.faults =
        [.strayPiece .print] ∧
      reached 100000 ((99959 : Count) + BitVec.ofNat 32 g1.geometry.tolerance + 1) = true ∧
      (next (.jam .exit) (expected .running (piece .debited 3600) 99959)).status.faults =
        [.jam .exit 7] := by decide
/-- A record with its debit done and its imprint held. -/
def debited1 : Piece :=
  { piece .debited 3600 with
    pieceNumber := some 1, reserved := false,
    imprint := some ⟨7, 1, 1, some ⟨2031, 4, 1⟩, some 1200, 9, 4, some 640, some 42, 0⟩ }
theorem test_print_release :
    (expected .running debited1 100040).track.printExpected.head? = some ⟨7, 100040⟩ ∧
      ((100040 : Count) - 100000).toNat ≤ g1.geometry.tolerance ∧
      (expected .running debited1 100040).track.find 7 = some debited1 ∧ debited1.reason = none ∧
      debited1.imprint.isSome = true ∧ debited1.sampled = some (expected .running debited1 100040).clock.date ∧
      (next (.downstreamLeadEdge .print) (expected .running debited1 100040)).print.printing = [⟨1, 7⟩] := by
  decide
theorem test_print_spoils :
    let late := { expected .running debited1 99960 with clock := { (lane .running).clock with date := ⟨2031, 4, 2⟩ } }
    let blind := { expected .running debited1 99960 with clock := { (lane .running).clock with invalid := true } }
    let unready := { expected .running debited1 99960 with print := { (lane .running).print with headReady := false } }
    debited1.sampled ≠ some late.clock.date ∧ blind.clock.invalid = true ∧ unready.print.printing = [] ∧
      (next (.downstreamLeadEdge .print) late).funds.queue.length = 1 ∧
      ((next (.downstreamLeadEdge .print) late).track.find 7).bind Piece.reason =
        some (.spoiled .datePassed) ∧
      ((next (.downstreamLeadEdge .print) blind).track.find 7).bind Piece.reason = some (.spoiled .clock) ∧
      (next (.downstreamLeadEdge .print) unready).print.headFault = true := by decide
theorem test_exit_franks :
    (expected .running { debited1 with state := .printed } 99960).track.exitExpected.head? = some ⟨7, 99960⟩ ∧
      (next (.downstreamLeadEdge .exit) (expected .running { debited1 with state := .printed } 99960)).track.records
        = [] ∧
      (next (.downstreamLeadEdge .exit) (expected .running { debited1 with state := .printed } 99960)).print.franked
        = 1 := by decide
theorem test_exit_others :
    let done := expected .running { debited1 with reason := some (.spoiled .clock) } 99960
    let out := expected .running { debited1 with state := .printing, imprint := none } 99960
    ({ debited1 with reason := some (.spoiled .clock) } : Piece).hasOutcome = true ∧
      (next (.downstreamLeadEdge .exit) done).track.records = [] ∧
      (next (.downstreamLeadEdge .exit) done).print.franked = 0 ∧
      (next (.downstreamLeadEdge .exit) out).print.headOut = out.print.headOut ++ [.abort 1] ∧
      (next (.downstreamLeadEdge .exit) out).status.faults = [.headFault 1 .noAnswer] ∧
      (next (.downstreamLeadEdge .exit) out).print.headFault = true ∧
      (next (.downstreamLeadEdge .exit) out).pacing.lane = .stopped ∧
      (next (.downstreamLeadEdge .exit) out).funds.queue.take 1 =
        [.spoiled 7 (some 1) .noAnswer debited1.facts] := by decide
/-- A DRAINING lane with its marks set as given. -/
def draining (head scale : Bool) (s : State) : State :=
  { s with pacing := { s.pacing with lane := .draining, drainHead := head, drainScale := scale } }
theorem test_drain_ends_at_departure :
    let out (head scale : Bool) : State := next (.downstreamLeadEdge .exit)
      (draining head scale (expected .running { debited1 with state := .printed } 99960))
    let turned (head scale : Bool) : State := next (.decisionEvent 7)
      (draining head scale (carrying .running (piece .ratedUnfunded 2400)))
    let headed (ready : Bool) (s : State) : State :=
      { s with print := { s.print with headFault := true, headReady := ready } }
    let leaving (ready : Bool) : State := next (.downstreamLeadEdge .exit)
      (headed ready (draining true false (expected .running { debited1 with state := .printed } 99960)))
    (out false false).pacing.lane = .ready ∧ (out true false).pacing.lane = .stopped ∧
      (out false true).pacing.lane = .ready ∧ (out true false).pacing.drainHead = false ∧
      (out false true).pacing.drainScale = false ∧ (turned false false).pacing.lane = .ready ∧
      (turned true false).pacing.lane = .stopped ∧ (turned true false).pacing.drainHead = false ∧
      (leaving true).print.headFault = false ∧ (leaving false).print.headFault = true := by decide
/-- A station whose current bank is named and is the one of the record on the track. -/
def named (s : State) (st : BankState) : State :=
  { s with rate := { s.rate with bankA := { bank1 st with named := true } } }
theorem test_departure_reported :
    let out := expected .running { debited1 with state := .printed } 99960
    (next (.downstreamLeadEdge .exit) (named out .current)).rate.bankA.named = false ∧
      (next (.downstreamLeadEdge .exit) (named out .retiring)).rate.bankA.state = .free ∧
      (next (.decisionEvent 7) (named (carrying .running (piece .measuring 2400)) .retiring)).rate.bankA.state
        = .free := by decide
theorem test_print_event_held :
    let s := { expected .running (piece .armed 3600) 100040 with print := { (lane .running).print with
      armed := [⟨7, 1200, (piece .armed 3600).facts, none, none⟩] } }
    (next (.downstreamLeadEdge .print) s).print.armed.map Armed.printEvent = [some 100000] ∧
      (next (.downstreamLeadEdge .print) (expected .running (piece .accepted 3600) 100040)).track.printExpected
        = [] := by decide
/-- Records of tags 1..6, one in each state that abandonment tells apart. -/
def crowd : List Piece :=
  [{ piece .printed 4300 with tag := 1, reserved := false, pieceNumber := some 1 },
   { piece .printing 4000 with tag := 2, reserved := false, pieceNumber := some 2 },
   { piece .debited 3500 with tag := 3, reserved := false, pieceNumber := some 3 },
   { piece .armed 3300 with tag := 4 }, { piece .accepted 2500 with tag := 5 },
   { piece .armed 3400 with tag := 6, reserved := false, reason := some (.passedUnprinted .store) }]
theorem test_abandonment :
    let s : State := { lane .running with
      track := { Track.afterReset with records := crowd },
      funds := { (lane .running).funds with reserved := 2400 },
      print := { (lane .running).print with headFault := true, printing := [⟨2, 2⟩] } }
    let t := next (.jam .exit) { s with track := { s.track with exitExpected := [⟨1, 99900⟩] } }
    t.funds.queue = crowd.filterMap abandonedEntry ∧
      t.funds.queue = [.spoiled 2 (some 2) .stopped (piece .rated 1).facts,
        .spoiled 3 (some 3) .stopped (piece .rated 1).facts, .abandoned 5 (piece .rated 1).facts] ∧
      t.funds.reserved = 1200 ∧ t.print.franked = 1 ∧ t.print.headOut = s.print.headOut ++ [.abort 2] ∧
      t.print.printing = [] ∧ t.print.headFault = false ∧ t.pacing.lane = .stopped := by decide
theorem test_gate_opens :
    (next .feedGateOpen { opened with track := { opened.track with gateOpen := false } }).track.gateOpen = true ∧
      (next .feedGateOpen (lane .running)).track.gateOpen = false := by decide
theorem test_throttle_factor :
    let s := { lane .running with pacing := { (lane .running).pacing with consoleFactor := 3 } }
    let ask (s : State) : State := { s with credit := { s.credit with ask := some ⟨3000, 2000⟩ } }
    let heat (s : State) : State := { s with pacing := { s.pacing with heatActive := true } }
    s.throttleFactor = 3 ∧ (ask s).throttleFactor = 3 ∧ (heat s).throttleFactor = 4 ∧
      (ask (lane .running)).throttleFactor = 2 ∧ (ask (heat (lane .running))).throttleFactor = 4 ∧
      (lane .quiet).throttleFactor = 1 := by decide
theorem test_feed_miss :
    opened.track.openingCount = some 96000 ∧ reached opened.io.encoder (95999 + 4000#32 + 1) = true ∧
      (next .feedMiss { opened with track := { opened.track with openingCount := some 95999 } }).track.feedMisses
        = 1 ∧
      (next .feedMiss opened).track.gateOpen = true := by decide
theorem test_grace_and_hold_end :
    (next .graceEnd (graced 41)).track.grace = none ∧ (next .graceEnd (graced 40)).track.grace.isSome = true ∧
      (next .divertHoldEnd (holding (.untilCount 100000))).track.divertHold = none ∧
      (next .divertHoldEnd (holding (.untilCount 100001))).track.divertHold.isSome = true := by decide
theorem test_note :
    (next (.noteArrival 9 4 [1, 2, 3, 4]) (lane .ready)).track.notes.length = 1 ∧
      next (.noteArrival 9 4 [1, 2, 3, 4, 5]) (lane .ready) = lane .ready ∧
      (next (.noteArrival 9 4 []) (lane .quiet)).pacing.lane = .running ∧
      (next (.noteArrival 9 4 []) (lane .quiet)).link.full .wake = true ∧
      (next (.noteArrival 9 4 []) (lane .stopped)).status.faults = [.noteOverrun] := by decide
theorem test_lane_interface_outputs :
    let notes (n : Nat) (s : State) : State :=
      { s with track := { s.track with notes := List.replicate n ⟨9, 4, [], false⟩ } }
    let all : List Lane := [.offLine, .ready, .running, .draining, .quiet, .stopped]
    all.map (fun l => (notes 3 (lane l)).readerReady) = [false, true, true, true, true, false] ∧
      (notes 4 (lane .running)).readerReady = false ∧
      all.map Lane.drive = [false, false, true, true, false, false] ∧
      all.map Lane.quietLine = [false, false, false, false, true, false] ∧
      (holding (.onTrail 7)).diverting = true ∧ (lane .running).diverting = false := by decide
theorem test_decision_accepts :
    (piece .rated 2400).state.unaccepted = true ∧
      reached 100000 ((piece .rated 2400).lead + BitVec.ofNat 32 g1.geometry.decision) = true ∧
      reached 100000 ((piece .rated 2399).lead + BitVec.ofNat 32 g1.geometry.decision) = false ∧
      decisionOf (carrying .running (piece .rated 2400)) (piece .rated 2400) = none ∧
      ((next (.decisionEvent 7) (carrying .running (piece .rated 2400))).track.find 7).map Piece.state =
        some .accepted := by decide
theorem test_decision_diverts :
    decisionOf (carrying .running (piece .ratedUnfunded 2400)) (piece .ratedUnfunded 2400) = some .noFunds ∧
      (next (.decisionEvent 7) (carrying .running (piece .ratedUnfunded 2400))).track.diverted = 1 ∧
      (next (.decisionEvent 7) (carrying .running (piece .ratedUnfunded 2400))).funds.reserved = 0 ∧
      (next (.decisionEvent 7) (carrying .running
        { piece .failed 2400 with reason := some (.divert .noNote) })).track.records = [] := by decide
theorem test_divert_in_weigh_unit :
    let s := carrying .running (piece .measuring 2400)
    let entry (tag : Nat) (ph : Phase) : PlatformEntry := { tag := tag, lead := 0, trail := none, phase := ph }
    let t := next (.decisionEvent 7)
      { s with weigh := { s.weigh with platform := [entry 6 .waiting, entry 7 .waiting], barQueue := [6, 7, 9] } }
    t.weigh.platform = [entry 6 .waiting, entry 7 .done] ∧ t.weigh.barQueue = [6, 9] := by decide

/-! ### Weighing, measuring, rating -/

/-- A window of ten samples. -/
def window1 : Window := { sum := 20024, least := some 2000, greatest := some 2005, count := 10 }
/-- A record on the platform in a phase. -/
def weighing (p : Piece) (ph : Phase) : State :=
  { carrying .running p with weigh := { (lane .running).weigh with
      platform := [{ tag := 7, lead := p.lead, trail := p.trail, phase := ph }] } }
theorem test_platform_start :
    reached 100000 ((piece .rated 400).lead + BitVec.ofNat 32 g1.geometry.p0) = true ∧
      (carrying .running (piece .measuring 400)).weigh.platform.getLast? = none ∧
      (next (.platformStartEvent 7) (carrying .running (piece .measuring 400))).weigh.platform.length = 1 ∧
      (next (.platformStartEvent 7) (weighing (piece .measuring 400) .waiting)).weigh.platform.map
        PlatformEntry.phase = [.done, .waiting] ∧
      ((next (.platformStartEvent 7) (weighing (piece .measuring 400) .waiting)).track.find 7).bind
        Piece.reason = some (.divert (.weighFail .shortWindow)) := by decide
theorem test_platform_start_closes_window :
    (window1.judge g1.minSamples g1.steadiness (List.replicate 16 1250).sum).toOption = some 76 ∧
      ((next (.platformStartEvent 7) (weighing (piece .measuring 400) (.weighing window1))).track.find 7).bind
        Piece.weight = some 76 := by decide +kernel
theorem test_window_judged :
    (Window.judge ⟨100, some 10, some 10, 7⟩ 8 30 0 = .error .shortWindow) ∧
      (Window.judge ⟨100, some 10, some 41, 8⟩ 8 30 0 = .error .unsteady) ∧
      (Window.judge ⟨10000, some 1250, some 1250, 8⟩ 8 30 20000 = .error .zero) ∧
      (Window.judge ⟨10001, some 1250, some 1251, 8⟩ 8 30 20000 = .ok 1) ∧
      (Window.judge ⟨1610000, some 201250, some 201250, 8⟩ 8 30 20000 = .ok 20000) ∧
      (Window.judge ⟨1610001, some 201250, some 201251, 8⟩ 8 30 20000 = .error .overweight) := ⟨rfl, rfl, rfl, rfl, rfl, rfl⟩
theorem test_window_opens_and_leaves :
    (next (.windowOpening 7) (weighing (piece .measuring 1000) .waiting)).weigh.platform.map
        PlatformEntry.phase = [.weighing ⟨0, none, none, 0⟩] ∧
      (next (.windowOpening 7) (weighing (piece .measuring 999) .waiting)).weigh.platform.map
        PlatformEntry.phase = [.waiting] ∧
      (next (.platformLeaving 7) (weighing (piece .accepted 2101) .done)).weigh.platform = [] ∧
      (next (.platformLeaving 7) (weighing (piece .accepted 2100) .done)).weigh.platform.length = 1 := by decide
theorem test_platform_end :
    (piece .measuring 1600).marks.platformEnd = false ∧
      reached 100000 ((piece .measuring 1600).lead + BitVec.ofNat 32 g1.geometry.p1) = true ∧
      ((next (.platformEndEvent 7) (weighing (piece .measuring 1600) .waiting)).track.find 7).bind
        Piece.reason = some (.divert (.weighFail .overlong)) ∧
      ((next (.platformEndEvent 7) (weighing (piece .measuring 1600) .done)).track.find 7).map
        Piece.state = some .measuring ∧
      ((next (.platformEndEvent 7) (weighing (piece .measuring 1600) (.weighing window1))).track.find 7).bind
        Piece.weight = some 76 := by decide
theorem test_scale_sample_filed :
    (weighing (piece .measuring 1000) (.weighing window1)).weigh.platform ≠ [] ∧
      (next (.scaleSample 1990) (weighing (piece .measuring 1000) (.weighing window1))).weigh.platform.map
        PlatformEntry.phase = [.weighing ⟨22014, some 1990, some 2005, 11⟩] ∧
      next (.scaleSample 1990) (weighing (piece .measuring 1000) .done) =
        weighing (piece .measuring 1000) .done ∧
      next (.scaleSample 1990) (lane .stopped) = lane .stopped := by decide
theorem test_scale_sample_zero :
    (lane .ready).weigh.zero = some (1250 :: List.replicate 15 1250) ∧
      (next (.scaleSample 4450) (lane .ready)).weigh.scaleZero = false ∧
      (next (.scaleSample 4451) (lane .ready)).weigh.scaleZero = true ∧
      (next (.scaleSample 4451) (lane .ready)).status.faults = [.scaleZero] ∧
      (next (.scaleSample 4451) (lane .running)).pacing.lane = .ready ∧
      (next (.scaleSample 4451) (carrying .running (piece .armed 3300))).pacing.drainScale = true := by decide
/-- A record whose tag heads the bar queue. -/
def barred (p : Piece) : State :=
  { carrying .running p with weigh := { (lane .running).weigh with barQueue := [7] } }
theorem test_bar :
    reached 100000 ((piece .measuring 1900).lead + BitVec.ofNat 32 g1.geometry.bar) = true ∧
      (next (.barEvent 7) (carrying .running (piece .measuring 1900))).weigh.barQueue = [7] ∧
      ((next (.barReading 6000 6000) (barred { piece .measuring 1900 with width := none })).track.find 7).bind
        Piece.width = some 6000 ∧
      (next (.barReading 6001 0) (barred { piece .measuring 1900 with width := none })).weigh.barQueue = [] ∧
      (next .barNoRead (lane .running)).weigh.unboundBar = 1 ∧
      next .barNoRead (lane .ready) = lane .ready ∧
      Piece.complete { piece .measuring 1900 with width := none } = false := by decide
/-- A rating at a stage. -/
def rating (st : Stage) : Rating :=
  { tag := 7, stage := st,
    facts := { classCode := 9, zone := 4, services := [7], weight := 640, length := 2500, width := 1000,
               thickness := 40 },
    sampled := none, printed := some ⟨2031, 4, 1⟩, generation := none, classFound := none, sum := 680,
    postage := 680 }
/-- A station rating its record, under a bank in a state. -/
def rated (st : Stage) (b : BankState) : State :=
  { tariffed (carrying .running { piece .rating 2000 with reserved := false }) b with
    engine := { queue := [], rating := some (rating st) } }
theorem test_date_sample :
    (rated .sampling .current).clock.updating = false ∧ (rating .sampling).stage = .sampling ∧
      (rated .sampling .current).clock.date.plus 7 = some ⟨2031, 4, 8⟩ ∧
      (Date.mk 2099 12 31).plus 1 = none ∧
      ((next (.dateSampleAnswer 7) (rated .sampling .current)).engine.rating.map Rating.stage) =
        some .choosing := by decide
theorem test_bank_choice :
    (rating .choosing).printed = some ⟨2031, 4, 1⟩ ∧
      (bank1 .current).price (rating .choosing).facts = .ok (9, 680, 680) ∧
      ((next .bankChoice (rated .choosing .current)).engine.rating.map Rating.postage) = some 680 ∧
      ((next .bankChoice (rated .choosing .pending)).engine.rating.map Rating.generation) = some (some 42) ∧
      (next .bankChoice (rated .choosing .current)).rate.bankA.named = true ∧
      ((next .bankChoice (rated .choosing .free)).track.find 7).bind Piece.reason =
        some (.divert .noRates) := ⟨rfl, rfl, by decide⟩
theorem test_pricing :
    (bank1 .current).basePrice { (rating .choosing).facts with classCode := 8 } = .error .noClass ∧
      (bank1 .current).basePrice { (rating .choosing).facts with length := 12001 } = .error .overLimit ∧
      (bank1 .current).basePrice { (rating .choosing).facts with zone := 7 } = .error .badZone ∧
      (bank1 .current).basePrice { (rating .choosing).facts with weight := 1001 } = .error .overLimit ∧
      (bank1 .current).basePrice { (rating .choosing).facts with zone := 6 } = .error .notOffered ∧
      (Surcharge.amount ⟨some [9], .thicknessOver 250, 40, 15, 100⟩ 9
        { (rating .choosing).facts with thickness := 351 } = 70) ∧
      (Surcharge.amount ⟨none, .lengthOver 1250, 40, 15, 100⟩ 9 (rating .choosing).facts = 0) ∧
      roundUp 681 5 = 685 ∧ roundUp 0 5 = 0 :=
  ⟨rfl, rfl, rfl, rfl, rfl, by decide⟩
theorem test_reservation :
    (rated .reserving .current).track.find 7 = some { piece .rating 2000 with reserved := false } ∧
      (next .reservationRequest (rated .reserving .current)).funds.reserved = 680 ∧
      (next .reservationRequest { rated .reserving .current with funds :=
        { (lane .running).funds with reserved := 19321 } }).funds.unfunded = [7] := by decide
theorem test_reservation_brings_asking_test :
    let low := { rated .reserving .current with funds := { (lane .running).funds with reserved := 19021 } }
    let s := next .reservationRequest low
    let refused := next .reservationRequest { low with funds := { low.funds with reserved := 19321 } }
    let short := { rated .reserving .current with credit := { Credit.afterReset with creditShort := true } }
    s.funds.reserved = 19701 ∧ s.credit.ask = some ⟨3000, 2000⟩ ∧
      s.link.slots.creditAsk = .holding .creditAsk ∧ refused.credit.ask = some ⟨3000, 2000⟩ ∧
      (next .reservationRequest { low with credit := { Credit.afterReset with
        backOff := some 8000, creditShort := true } }).credit =
        { Credit.afterReset with backOff := some 8000, creditShort := true } ∧
      (next .reservationRequest short).credit = Credit.afterReset := by decide
theorem test_unfunded_place :
    let s := rated .reserving .current
    let other (tag : Nat) : Piece := { piece .ratedUnfunded 1000 with tag := tag, reserved := false }
    let t := next .reservationRequest { s with
      track := { s.track with records := [{ other 5 with lead := 90000 }] ++ s.track.records ++ [other 9] },
      funds := { (lane .running).funds with reserved := 19321, unfunded := [5, 9] } }
    t.funds.unfunded = [5, 7, 9] := by decide

/-! ### The print path -/

/-- An armed entry for the record. -/
def armed1 (provisional : Option SpoilCause) : Armed :=
  { tag := 7, postage := 1200, facts := (piece .armed 3300).facts, printEvent := none,
    provisional := provisional }
/-- A station whose record is ARMED with its debit being written. -/
def armedLane (provisional : Option SpoilCause) : State :=
  { writing (carrying .running (piece .armed 3800)) (.debit 7 1200 (piece .armed 3300).facts) with
    print := { (lane .running).print with armed := [armed1 provisional] } }
theorem test_arm :
    reached 100000 ((piece .accepted 3200).lead + BitVec.ofNat 32 g1.geometry.arm) = true ∧
      (carrying .running (piece .accepted 3200)).funds.arbiter.idle = true ∧
      (next (.armEvent 7) (carrying .running (piece .accepted 3200))).funds.arbiter.writing =
        some (.debit 7 1200 (piece .accepted 3200).facts) ∧
      ((next (.armEvent 7) (carrying .running (piece .failed 3200))).track.find 7).map Piece.state =
        some .failed := by decide
theorem test_facts_of_record :
    (piece .accepted 3200).facts = ⟨some 1200, some 640, some ⟨9, 4, [7], false⟩, some 42, some ⟨2031, 4, 1⟩⟩ := by
  decide
theorem test_arm_passes :
    7 ∉ (carrying .running (piece .accepted 3200)).funds.unfunded ∧
      ((next (.armEvent 7) { carrying .running (piece .accepted 3200) with
        print := { (lane .running).print with headReady := false } }).track.find 7).bind Piece.reason =
        some (.passedUnprinted .headNotReady) := by decide
theorem test_print_window_end :
    reached 100000 ((piece .armed 3800).lead + BitVec.ofNat 32 (g1.geometry.print + g1.geometry.window)) = true ∧
      (next (.endOfPrintWindow 7) (armedLane none)).print.armed.map Armed.provisional = [some .noPrint] ∧
      (next (.endOfPrintWindow 7) (carrying .running debited1)).print.armed = [] := by decide
/-- A station whose record is being printed. -/
def printing1 : State :=
  { carrying .running { debited1 with state := .printing, imprint := none } with
    print := { (lane .running).print with printing := [⟨1, 7⟩] } }
theorem test_head_messages :
    (next .headReady (lane .running)).print.headReady = true ∧
      (next .headNotReady (lane .running)).print.headReady = false ∧
      printing1.print.printing.find? (fun x => x.piece == 1) = some ⟨1, 7⟩ ∧
      ((next (.printDone 1) printing1).track.find 7).map Piece.state = some .printed ∧
      next (.printDone 2) printing1 = printing1 ∧ next (.printFault 1 4) printing1 = printing1 := by decide
theorem test_print_fault :
    printing1.status.holds 9 = false ∧ printing1.track.find 7 = some
        { debited1 with state := .printing, imprint := none } ∧
      ((next (.printFault 1 2) printing1).track.find 7).bind Piece.reason =
        some (.spoiled (.printFault .headJam)) ∧
      (next (.printFault 1 2) printing1).pacing.lane = .draining ∧
      (next (.printFault 1 2) printing1).status.faults = [.headFault 1 (.head .headJam)] := by decide

/-! ### The funds store -/

theorem test_debit :
    (armedLane none).funds.arbiter.writing = some (.debit 7 1200 (piece .armed 3300).facts) ∧
      (next (.debitComplete true) (armedLane none)).funds.store.available = 18800 ∧
      (next (.debitComplete true) (armedLane none)).funds.store.ascending = 1200 ∧
      ((next (.debitComplete true) (armedLane none)).track.find 7).bind Piece.pieceNumber = some 1 ∧
      ((next (.debitComplete true) (armedLane (some .noPrint))).track.find 7).bind Piece.reason =
        some (.spoiled .noPrint) := by decide
theorem test_debit_overdrawn (draw available : Nat) : debitedAvailable draw available (available + 1) ≤ available := by
  simp only [debitedAvailable, Nat.not_succ_le_self, if_false, Config.overdrawn]
  exact Nat.min_le_right _ _
/-- Its armed entry holds the print event. -/
def eventHeld : State :=
  { armedLane none with print := { (armedLane none).print with
    armed := (armedLane none).print.armed.map (fun a => { a with printEvent := some 99990 }) } }
theorem test_debit_with_event_held :
    let unready := { eventHeld with print := { eventHeld.print with headReady := false } }
    let blind := { eventHeld with clock := { eventHeld.clock with invalid := true } }
    (eventHeld.print.armed.map Armed.printEvent = [some 99990]) ∧ eventHeld.funds.unfunded = [] ∧
      (next (.debitComplete true) eventHeld).print.printing = [⟨1, 7⟩] ∧
      (next (.debitComplete true) eventHeld).print.headOut.length = eventHeld.print.headOut.length + 1 ∧
      ((next (.debitComplete true) eventHeld).track.find 7).map Piece.state = some .printing ∧
      ((next (.debitComplete true) blind).track.find 7).bind Piece.reason = some (.spoiled .clock) ∧
      ((next (.debitComplete true) unready).track.find 7).bind Piece.reason = some (.spoiled .notReady) ∧
      (next (.debitComplete true) unready).print.headFault = true := by decide
theorem test_spoiled_keeps_imprint :
    let late := { eventHeld with clock := { eventHeld.clock with invalid := true } }
    let held (s : State) : Option Bool := (s.track.find 7).map (fun p => p.imprint.isSome)
    let blind := { expected .running debited1 99960 with clock := { (lane .running).clock with invalid := true } }
    held (next (.debitComplete true) late) = some true ∧
      held (next (.downstreamLeadEdge .print) blind) = some true ∧
      held (next (.endOfPrintWindow 7) (carrying .running debited1)) = some true ∧
      (next (.printFault 1 2) { printing1 with track := { printing1.track with
        records := [{ debited1 with state := .printing, imprint := none },
          { debited1 with tag := 8, pieceNumber := some 2 }] } }).track.records.map Piece.imprint = [none, none] := by
  decide
theorem test_print_fault_marks_drain :
    let t := next (.printFault 1 2) (draining false true printing1)
    t.pacing.lane = .draining ∧ t.pacing.drainHead = true ∧ t.pacing.drainScale = true := by decide
theorem test_debit_refused :
    let s := carrying .running (piece .accepted 3200)
    let full := { s with funds := { s.funds with store := { s.funds.store with ascending := 999999999999 } } }
    let faulty := { s with funds := { s.funds with storeFault := true } }
    (next (.armEvent 7) full).status.faults = [.ascendingFull] ∧
      (next (.armEvent 7) full).pacing.lane = .stopped ∧
      (next (.armEvent 7) full).funds.queue = [.passedUnprinted 7 .full (piece .accepted 3200).facts] ∧
      (next (.armEvent 7) faulty).funds.queue = [.passedUnprinted 7 .store (piece .accepted 3200).facts] ∧
      (next (.armEvent 7) faulty).pacing.lane = .running ∧ (next (.armEvent 7) faulty).funds.reserved = 0 := by
  decide
/-- A station with an ask open. -/
def asking : State :=
  { lane .running with credit := { Credit.afterReset with ask := some ⟨3000, 2000⟩ } }
theorem test_lot_in :
    (next (.lotInComplete true) (writing asking (.lotIn 3 9 2000))).funds.store.available = 22000 ∧
      (next (.lotInComplete true) (writing asking (.lotIn 3 9 2000))).credit.ask = some ⟨1000, 2000⟩ ∧
      (next (.lotInComplete true) (writing asking (.lotIn 3 9 3000))).credit.ask = none ∧
      (next (.lotInComplete true) (writing asking (.lotIn 3 9 2000))).link.ack = .driven ∧
      g1.lowMark ≤ 20000 := by decide
/-- A station with three pieces unfunded, of 50,000, 1,200 and 700, and all of its 20,000 reserved. -/
def retrying : State :=
  let unfunded (tag postage : Nat) : Piece :=
    { piece .ratedUnfunded 2400 with tag := tag, postage := some postage, reserved := false }
  { asking with
    track := { Track.afterReset with records := [unfunded 1 50000, unfunded 2 1200, unfunded 3 700], tagCounter := 8 },
    funds := { asking.funds with reserved := 20000, unfunded := [1, 2, 3] } }
theorem test_retry :
    grantedTags retrying.track 1500 [1, 2, 3] = [2] ∧
      (next (.lotInComplete true) (writing retrying (.lotIn 3 9 1500))).funds.reserved = 21200 ∧
      (next (.lotInComplete true) (writing retrying (.lotIn 3 9 1500))).funds.unfunded = [1, 3] ∧
      (next (.lotInComplete true) (writing retrying (.lotIn 3 9 1500))).track.records.map Piece.state =
        [.ratedUnfunded, .rated, .ratedUnfunded] ∧
      (next (.refillComplete true) (writing retrying (.refill 1 2400))).funds.unfunded = [1] := by decide
/-- A station with a passage outbound. -/
def lending : State :=
  { lane .running with funds := { (lane .running).funds with store :=
      { (lane .running).funds.store with outbound := some ⟨1, 3, 2000, .ask⟩, nextPassage := 2 } } }
theorem test_passage_writes :
    (next (.lotOutStartComplete true) (writing (lane .running) (.lotOutStart 3 2000 .ask))).funds.store.outbound
        = some ⟨1, 3, 2000, .ask⟩ ∧
      (next (.lotOutEndComplete true) (writing lending (.lotOutEnd 1 .taken))).funds.store.available = 20000 ∧
      (next (.lotOutEndComplete true) (writing lending (.lotOutEnd 1 .notTaken))).funds.store.available =
        22000 := by decide
/-- A station with an entry in its journal queue. -/
def queued : State :=
  { lane .running with funds := { (lane .running).funds with queue := [.abandoned 7 (piece .rated 1).facts] } }
theorem test_other_writes :
    ((next (.settleNotTakenComplete true) (writing (lane .running) (.settleNotTaken 3 4))).funds.store.settledOf
        3) = ⟨4, some .notTaken⟩ ∧
      (next (.runMarkComplete true) (writing (lane .running) (.runMark true))).funds.store.runMark = some 0 ∧
      (next (.journalAppendComplete true) (writing queued .journalAppend)).funds.store.ring.length = 1 ∧
      (writing queued .journalAppend).funds.queue.length = 1 := by decide
/-- A station cut off while its lane ran. -/
def cutOff : State :=
  { lane .running with funds := { (lane .running).funds with store :=
      { (lane .running).funds.store with runMark := some 0 } } }
/-- A station whose ring is full from entry `n` on, with the read marker at `marker` and faults held. -/
def fullRing (s : State) (n marker : Nat) (faults : List StickyFault) : State :=
  { s with
    funds := { s.funds with store := { s.funds.store with
      ring := (List.range 1024).map (fun k => ⟨n + k, .refill 1 2⟩), nextJournal := n + 1024 } },
    status := { s.status with readMarker := marker, faults := faults } }
theorem test_full_ring : (fullRing (lane .ready) 5 4 []).funds.store.ring.length = 1024 ∧
    (fullRing (lane .ready) 5 4 []).funds.store.ring.head?.map Placed.number = some 5 := by
  decide +kernel
theorem test_journal_wrap :
    let wrapped (n marker : Nat) (faults : List StickyFault) : List StickyFault :=
      ((fullRing (lane .ready) n marker faults).wrapFault (.refill 1 500)).status.faults
    wrapped 5 4 [] = [.journalWrap 5] ∧ wrapped 5 5 [] = [] ∧
      wrapped 5 4 [.headFault 3 .noAnswer, .journalWrap 1, .linkCheck] =
        [.headFault 3 .noAnswer, .journalWrap 1, .linkCheck] ∧
      ((fullRing (lane .ready) 5 4 []).wrapFault (.runMark true)).status.faults = [] := by decide +kernel
theorem test_journal_wrap_at_writes :
    let faults (c : Instr) (s : State) : List StickyFault := (next c (fullRing s 5 4 [])).status.faults
    faults (.refillComplete true) (writing (lane .ready) (.refill 1 500)) = [.journalWrap 5] ∧
      faults (.journalAppendComplete true) (writing queued .journalAppend) = [.journalWrap 5] ∧
      faults (.debitComplete true) (armedLane none) = [.journalWrap 5] ∧
      faults (.powerUp true (inputs 1)) cutOff = [.powerLossInRun, .journalWrap 5] := by decide +kernel
/-- A station with a remit in progress whose passage to station 3 is resolved. -/
def resolving (purpose : Purpose) (remaining : Option Nat) (o : PassOutcome) : State :=
  { writing (lane .ready) (.lotOutEnd 1 o) with
    credit := { Credit.afterReset with remit := some ⟨3, remaining⟩ },
    funds := { (writing (lane .ready) (.lotOutEnd 1 o)).funds with store :=
      { (lane .ready).funds.store with outbound := some ⟨1, 3, 2000, purpose⟩ } } }
theorem test_remit_after_passage :
    let u (p : Purpose) (r : Option Nat) (o : PassOutcome) : State :=
      next (.lotOutEndComplete true) (resolving p r o)
    let step : Slot := .holding (.lotPass .remit .waiting)
    (u .remit (some 5000) .taken).credit.remit = some ⟨3, some 3000⟩ ∧
      (u .remit (some 5000) .taken).link.slots.passage = step ∧
      (u .remit (some 2001) .taken).credit.remit = some ⟨3, some 1⟩ ∧
      (u .remit (some 2000) .taken).credit.remit = none ∧ (u .remit (some 2000) .taken).status.faults = [] ∧
      (u .remit none .taken).credit.remit = some ⟨3, none⟩ ∧ (u .remit none .taken).link.slots.passage = step ∧
      (u .remit (some 5000) .notTaken).credit.remit = none ∧
      (u .remit (some 5000) .notTaken).status.faults = [.remitIncomplete 3 5000] ∧
      (u .remit none .notTaken).status.faults = [.remitIncomplete 3 22000] ∧
      (u .ask none .notTaken).credit.remit = some ⟨3, none⟩ ∧ (u .ask none .notTaken).link.slots.passage = step := by
  decide
theorem test_undone_write :
    (next (.debitComplete false) (armedLane none)).funds.store = (armedLane none).funds.store ∧
      (next (.debitComplete false) (armedLane none)).funds.storeFault = true ∧
      (next (.debitComplete false) (armedLane none)).pacing.lane = .draining := by decide
theorem test_arbiter :
    let busy := { lane .running with funds := { (lane .running).funds with arbiter :=
      { Arbiter.free with link := some (.refill 1 500), print := [.runMark true], credit := [.settleNotTaken 3 4] } } }
    (lane .running).verdict (.refill 1 500) = .write ∧ (lane .running).verdict (.refill 2 500) = .refused .serial ∧
      (lane .running).verdict (.lotIn 3 0 1) = .refused .stale ∧
      (lane .running).verdict (.lotOutStart 3 20001 .ask) = .refused .short ∧
      (lane .running).verdict (.lotOutEnd 1 .taken) = .refused .noPassage ∧
      (lane .running).verdict .journalAppend = .write ∧
      busy.pump.funds.arbiter.writing = some (.refill 1 500) ∧
      queued.pump.funds.arbiter.writing = some .journalAppend := by decide
theorem test_grant_classes :
    let one (p c : List Claim) : State := { lane .running with funds := { (lane .running).funds with arbiter :=
      { Arbiter.free with print := p, credit := c } } }
    (one [.runMark true] [.settleNotTaken 3 4]).pump.funds.arbiter.writing = some (.runMark true) ∧
      (one [] [.settleNotTaken 3 4]).pump.funds.arbiter.writing = some (.settleNotTaken 3 4) := by decide
/-- A station with both waiting entries, the switch's first. -/
def waiting1 : State :=
  { lane .running with
    rate := { (lane .running).rate with waitingSwitch := some (.bankSwitch 42 none ⟨2031, 4, 1⟩) },
    clock := { (lane .running).clock with
      waitingEntry := some (.dateSet ⟨2031, 4, 1⟩ ⟨9, 0, 0⟩ ⟨2031, 3, 31⟩) },
    funds := { (lane .running).funds with waiters := [.bankSwitch, .dateSet] } }
theorem test_waiting_entries :
    (next .bankSwitchEntryJoin waiting1).rate.waitingSwitch = none ∧
      (next .bankSwitchEntryJoin waiting1).funds.queue.length = 1 ∧
      next .dateSetEntryJoin waiting1 = waiting1 ∧
      (next .dateSetEntryJoin (next .bankSwitchEntryJoin waiting1)).clock.waitingEntry = none := by decide
theorem test_settled_state : (carrying .running (piece .rated 100)).isIdle = false ∧
    (carrying .running (piece .rated 100)).settle = carrying .running (piece .rated 100) := by decide

theorem test_step_end :
    let rated : State := { carrying .running (piece .readyToRate 100) with engine := { queue := [7], rating := none } }
    let shut : State := { opened with clock := { opened.clock with disagree := true } }
    let hushed : State := (carrying .running (piece .rated 100)).request .hush .hush
    let objecting : State := { carrying .running (piece .rated 100) with pacing :=
      { (lane .running).pacing with window := some ⟨20, false⟩ } }
    (rated.settle.engine.rating.map (fun r => r.facts.weight) = some 640) ∧
      (rated.settle.track.find 7).map Piece.state = some .rating ∧
      shut.settle.track.gateOpen = false ∧ shut.settle.track.grace = some 100000 ∧
      opened.settle.track.gateOpen = true ∧
      (lane .running).settle.pacing.idleTimer = some 30 ∧ hushed.settle.link.full .hush = false ∧
      objecting.settle.link.slots.hold = .holding .hold ∧
      objecting.settle.pacing.window = some ⟨20, true⟩ := by decide

/-! ### Resets -/

theorem test_power_up :
    (next (.powerUp false (inputs 0)) State.reset).link.mute = true ∧
      (next (.powerUp false (inputs 14)) State.reset).link.mute = false ∧
      (next (.powerUp false (inputs 1)) (lane .running)).clock.date = ⟨2000, 1, 1⟩ ∧
      (next (.powerUp true (inputs 1)) (lane .running)).clock.date = ⟨2031, 4, 1⟩ ∧
      (next (.powerUp true (inputs 1)) lending).link.slots.passage.req = some (.passQuery 3 1) := by decide
theorem test_start_up :
    (next (.powerUp true (inputs 1)) cutOff).status.faults = [.powerLossInRun] ∧
      (next (.powerUp true (inputs 1)) cutOff).funds.store.ring.map Placed.entry =
        [.unconfirmed none none none 0] ∧
      (next (.powerUp true { inputs 1 with checksPass := false }) cutOff).status.faults = [.storeFault] := by
  decide
theorem test_warm_reset_and_loss :
    (next (.warmReset true (inputs 5)) (lane .running)).link.station = 5 ∧
      (next (.warmReset true (inputs 5)) refilling).funds.store.available = 20500 ∧
      (next .powerLoss refilling).funds.store.available = 20000 ∧ (next .powerLoss refilling).powered = false ∧
      next .headReady (next .powerLoss refilling) = next .powerLoss refilling := by decide
theorem test_warm_reset_keeps_store_and_clock :
    let s := { writing lending (.refill 1 500) with
      clock := { (lane .running).clock with updating := true, latchReported := true, postdate := 3 } }
    let t := next (.warmReset true (inputs 1)) s
    t.funds.store = (next (.refillComplete true) s).funds.store ∧ t.funds.store.available = 20500 ∧
      t.funds.store.outbound = some ⟨1, 3, 2000, .ask⟩ ∧
      t.link.slots.passage = .holding (.passQuery 3 1) ∧
      t.clock = { s.clock with postdate := 0 } ∧
      (next (.warmReset false (inputs 1)) s).funds.store = s.funds.store ∧
      (next (.warmReset false (inputs 1)) s).status.faults = [] ∧
      (next (.warmReset true (inputs 1)) cutOff).status.faults = [.powerLossInRun] ∧
      (next (.warmReset true (inputs 1)) cutOff).funds.store.runMark = none := by decide
theorem test_start_up_banks :
    let s := { tariffed (lane .running) .pending with rate := { (tariffed (lane .running) .pending).rate with
      bankB := { bank1 .current with generation := some 41, named := true } } }
    let t := next (.warmReset true (inputs 1)) s
    t.rate.bankA = { bank1 .pending with state := .current, named := false } ∧ t.rate.bankB.state = .free ∧
      t.funds.queue = [.bankSwitch 42 (some 41) ⟨2031, 4, 1⟩] ∧
      (next (.powerUp false (inputs 1)) s).rate.bankA = { bank1 .pending with named := false } ∧
      (next (.powerUp false (inputs 1)) s).funds.queue = [] := by decide
theorem test_reset_volatile :
    let s := { reporting (writing (lane .running) (.runMark true)) .hold .hold with
      funds := { (lane .running).funds with waiters := [.dateSet], arbiter :=
        { Arbiter.free with writing := some (.runMark true), credit := [.settleNotTaken 3 4] } } }
    let t := next (.warmReset false (inputs 1)) s
    t.link.report = none ∧ t.link.ack = .none ∧ t.funds.arbiter = Arbiter.free ∧ t.funds.waiters = [] := by decide

/-! ### The tariff -/

/-- A load of generation 43 in progress. -/
def loading (taken : Nat) (broken : Option LoadReason) : State :=
  { lane .ready with rate := { (lane .ready).rate with bankA :=
      { bank1 (.loading ⟨taken, 0x1234, broken⟩) with generation := some 43, effective := some ⟨2031, 5, 1⟩ } } }
theorem test_rate_begin :
    Takes (lane .ready) true ∧ (next (.rateBegin true 43 ⟨2031, 4, 2⟩ 1 1) (lane .ready)).rate.bankA.isLoading = true ∧
      (next (.rateBegin true 43 ⟨2031, 4, 1⟩ 1 1) (lane .ready)).status.faults = [.loadFailed .effectiveDate] ∧
      (next (.rateBegin true 0 ⟨2031, 4, 2⟩ 1 1) (lane .ready)).status.faults = [.loadFailed .field] ∧
      (next (.rateBegin true 44 ⟨2031, 5, 2⟩ 1 1) (loading 0 none)).status.faults = [.loadFailed .loadingBusy] := by
  refine ⟨⟨by decide, fun _ => by decide⟩, by decide, by decide, by decide, by decide⟩
theorem test_rate_finish :
    (next (.rateFinish true 43 2 0x1234) (loading 2 none)).rate.bankA.state = .pending ∧
      (next (.rateFinish true 43 2 0x1235) (loading 2 none)).status.faults = [.loadFailed .check] ∧
      (next (.rateFinish true 43 3 0x1234) (loading 2 none)).status.faults = [.loadFailed .segmentMissing] ∧
      (next (.rateFinish true 43 2 0x1234) (loading 2 (some .order))).status.faults = [.loadFailed .order] ∧
      (next (.rateFinish true 44 2 0x1234) (loading 2 none)).status.faults = [.loadFailed .notLoading] := by decide
theorem test_switch_at_finish :
    let due := { loading 2 none with clock := { (lane .ready).clock with date := ⟨2031, 5, 1⟩ } }
    let held := { due with rate := { due.rate with bankB := { bank1 .current with named := true } } }
    let idle := { due with rate := { due.rate with bankB := bank1 .current } }
    (next (.rateFinish true 43 2 0x1234) due).rate.bankA.state = .current ∧
      (next (.rateFinish true 43 2 0x1234) due).funds.queue = [.bankSwitch 43 none ⟨2031, 5, 1⟩] ∧
      (next (.rateFinish true 43 2 0x1234) held).rate.bankB.state = .retiring ∧
      (next (.rateFinish true 43 2 0x1234) idle).rate.bankB.state = .free ∧
      (next (.rateFinish true 43 2 0x1234) idle).funds.queue = [.bankSwitch 43 (some 42) ⟨2031, 5, 1⟩] := by
  decide
theorem test_surcharge_checks :
    let b := bank1 (.loading ⟨2, 0x1234, none⟩)
    let code := [9, 0, 0, 0, 0, 0, 0, 0]
    (b.addSegment (.surcharge 1 code 2 250 40 15 100)).toOption.map (fun b => b.surcharges.length) = some 1 ∧
      (b.addSegment (.surcharge 1 code 1 255 40 0 1)).toOption.isSome = true ∧
      (b.addSegment (.surcharge 1 code 1 256 40 0 1)).toOption.isSome = false ∧
      (b.addSegment (.surcharge 1 code 1 7 40 1 1)).toOption.isSome = false ∧
      (b.addSegment (.surcharge 1 code 5 0x0106 40 0 1)).toOption.isSome = true ∧
      (b.addSegment (.surcharge 1 code 5 0x0107 40 0 1)).toOption.isSome = false ∧
      (b.addSegment (.surcharge 9 code 2 250 40 15 100)).toOption.isSome = false ∧
      (b.addSegment (.surcharge 0 code 3 40001 40 15 100)).toOption.isSome = false ∧
      (b.addSegment (.surcharge 0 code 6 1 40 15 100)).toOption.isSome = false := by decide
theorem test_rate_drop :
    (next (.rateDrop true 43) (loading 2 none)).rate.bankA.state = .free ∧
      (next (.rateDrop true 42) (tariffed (lane .ready) .current)).status.faults = [.loadFailed .isProtected] ∧
      (next (.rateDrop true 42) (tariffed (lane .ready) .pending)).rate.bankA.state = .free ∧
      (next (.rateDrop true 41) (lane .ready)).status.faults = [.loadFailed .noSuchBank] := by decide
theorem test_rate_drop_asks_for_holdings :
    let held (l : Lane) (st : BankState) : State := tariffed (lane l) st
    (next (.rateDrop true 42) (held .ready .pending)).link.slots.holdings = .holding (.holdings false) ∧
      (next (.rateDrop true 42) (held .offLine .pending)).link.full .holdings = false ∧
      (next (.rateDrop true 43) (loading 2 none)).link.full .holdings = false ∧
      (next (.rateFinish true 43 2 0x1234) (loading 2 none)).link.slots.holdings = .holding (.holdings false) := by
  decide
theorem test_rate_frames_not_taken :
    let mute := { loading 2 none with link := { (loading 2 none).link with mute := true } }
    let closed := { loading 2 none with link := { (loading 2 none).link with dispatchOpen := false } }
    ¬ Takes mute true ∧ ¬ Takes closed false ∧ next (.rateDrop true 43) mute = acked mute true false ∧
      next (.rateFinish false 43 2 0x1234) closed = closed ∧
      next (.rateLoad true 43 2 (.breakRow 2000 (List.replicate 6 1))) mute = acked mute true false ∧
      (next (.rateDrop false 43) mute).rate.bankA.state = .free := by
  refine ⟨by simp [Takes, loading], by simp [Takes, loading], by decide, by decide, by decide, by decide⟩
theorem test_rate_load :
    (next (.rateLoad true 43 1 (.classHeader 3 100 2400 1650 50)) (loading 1 none)).rate.bankA.classes.length = 2 ∧
      next (.rateLoad false 43 0 (.classHeader 3 100 2400 1650 50)) (loading 1 none) = loading 1 none ∧
      (next (.rateLoad true 43 2 (.classHeader 3 100 2400 1650 50)) (loading 1 none)).status.faults =
        [.loadFailed .segmentMissing] ∧
      (next (.rateLoad true 43 1 (.classHeader 9 100 2400 1650 50)) (loading 1 none)).status.faults =
        [.loadFailed .duplicateClass] ∧
      (next (.rateLoad true 43 1 (.breakRow 1000 (List.replicate 6 1))) (loading 1 none)).status.faults =
        [.loadFailed .order] := by decide

/-! ### Configuration and the console's frames -/

/-- A station that has not been configured. -/
def fresh : State := { lane .offLine with pacing := State.reset.pacing }
theorem test_settle_checks :
    settleFailing record1 = none ∧ settleFailing { record1 with p0 := 0 } = some 1 ∧
      settleFailing { record1 with p0 := 1600 } = some 2 ∧ settleFailing { record1 with exit := 16001 } = some 7 ∧
      settleFailing { record1 with window := 19 } = some 8 ∧
      settleFailing { record1 with tolerance := 400 } = some 9 ∧
      settleFailing { record1 with gap := 80 } = some 11 ∧
      settleFailing { record1 with notePresent := true, noteCount := 5 } = some 13 ∧
      settleFailing { record1 with noteCount := 5 } = none ∧
      settleFailing { record1 with keepAmount := 299 } = some 22 ∧
      settleFailing { record1 with creditFactor := 9, heatFactor := 0 } = some 27 := by decide
theorem test_settle_fields :
    FieldFails { record1 with p0 := 0 } 1 ∧ FieldFails { record1 with exit := 3840 } 9 ∧
      FieldFails { record1 with lowMark := 5001 } 22 ∧ FieldFails { record1 with creditFactor := 9 } 28 ∧
      ¬ FieldFails record1 9 ∧ ¬ FieldFails { record1 with noteClass := 256 } 14 := by
  simp [FieldFails, record1]
theorem test_settle :
    (next (.settle record1) fresh).pacing.lane = .ready ∧
      (next (.settle record1) fresh).pacing.settings = some g1 ∧
      (next (.settle record1) fresh).link.ack = .driven ∧
      (next (.settle record1) fresh).link.slots.holdings.req = some (.holdings true) ∧
      (next (.settle { record1 with p0 := 0 }) fresh).status.faults = [.settleRefused 1] ∧
      (next (.settle record1) (lane .ready)).link.ack = .released := by decide
theorem test_settle_default_note :
    let noted := { record1 with
      notePresent := true, noteCount := 2, noteClass := 9, noteZone := 4, noteServices := [7, 8, 5, 6] }
    ((next (.settle noted) fresh).pacing.settings.bind Settings.defaultNote) = some ⟨9, 4, [7, 8], true⟩ ∧
      ((next (.settle { noted with notePresent := false }) fresh).pacing.settings.bind Settings.defaultNote) =
        none := by decide
theorem test_settle_frame_takes : Takes fresh true ∧ fresh.pacing.lane = .offLine ∧
    fresh.link.sending .holdings = false := ⟨⟨by decide, fun _ => by decide⟩, by decide, by decide⟩
theorem test_refill :
    (next (.refill 1 99999999) (lane .ready)).funds.arbiter.writing = some (.refill 1 99999999) ∧
      (next (.refill 1 99999999) (lane .ready)).link.ack = .pending ∧
      (next (.refill 1 500) fresh).status.faults = [.refillRefused 1 .state] ∧
      (next (.refill 1 0) (lane .ready)).status.faults = [.refillRefused 1 .field] ∧
      (next (.refill 2 500) (lane .ready)).status.faults = [.refillRefused 2 .serial] ∧
      (next (.refill 1 500) (writing (lane .ready) (.runMark true))).funds.arbiter.link = some (.refill 1 500) ∧
      (next (.refill 1 500) refilling).link.ack = .released := by decide
theorem test_remit :
    (next (.remit 3 20000) (lane .stopped)).credit.remit = some ⟨3, some 20000⟩ ∧
      (next (.remit 14 0) (lane .ready)).credit.remit = some ⟨14, none⟩ ∧
      (next (.remit 3 0) (lane .ready)).link.slots.passage.req = some (.lotPass .remit .waiting) ∧
      (next (.remit 1 0) (lane .ready)).link.ack = .released ∧
      (next (.remit 3 20001) (lane .ready)).link.ack = .released ∧
      (next (.remit 3 0) (lane .running)).credit.remit = none := by decide
theorem test_line_run :
    (next (.lineRun true) (lane .ready)).pacing.lane = .running ∧
      (next (.lineRun true) (lane .ready)).funds.arbiter.writing = some (.runMark true) ∧
      (next (.lineRun false) (lane .quiet)).pacing.lane = .running ∧
      (next (.lineRun false) (lane .quiet)).link.full .wake = false ∧
      (next (.lineRun true) (lane .running)).link.ack = .driven ∧
      (next (.lineRun true) (lane .draining)).link.ack = .released := by decide
theorem test_line_stop :
    (next (.lineStop true) (lane .running)).pacing.lane = .ready ∧
      (next (.lineStop true) (carrying .running (piece .rated 100))).pacing.lane = .draining ∧
      (next (.lineStop true) (lane .quiet)).pacing.lane = .ready ∧
      (next (.lineStop true) (lane .offLine)).link.ack = .released ∧
      (next (.lineStop true) (lane .stopped)).link.ack = .driven := by decide
theorem test_lane_entered :
    let hot := { lane .running with
      pacing := { (lane .running).pacing with
        hot := true, heatActive := true, holdTimer := some 4000, window := some ⟨20, false⟩ },
      credit := { Credit.afterReset with ask := some ⟨3000, 2000⟩ } }
    let ended := next (.lineStop true) hot
    let entered := next (.lineRun true) { lane .ready with pacing := { (lane .ready).pacing with hot := true } }
    ended.pacing = { hot.pacing with
        lane := .ready, heatActive := false, holdTimer := none, window := none } ∧
      ended.credit.ask = none ∧ ended.link.slots.holdings = .holding (.holdings true) ∧
      ended.funds.arbiter = Arbiter.free ∧ entered.pacing.heatTimer = some 2000 ∧
      entered.link.slots.holdings = .holding (.holdings false) ∧
      (next (.lineStop true) cutOff).funds.arbiter.writing = some (.runMark false) ∧
      (next .objectionWindowEnd { cutOff with pacing :=
        { cutOff.pacing with window := some ⟨20, false⟩ } }).funds.arbiter.writing = some (.runMark false) := by
  decide
theorem test_run_mark_claimed_in_its_place :
    let waits (l : List Claim) : State := { writing (lane .ready) .journalAppend with funds :=
      { (lane .ready).funds with arbiter := { Arbiter.free with writing := some .journalAppend, print := l } } }
    let facts := (piece .accepted 1).facts
    (next (.lineRun true) (waits [.runMark false, .debit 7 5 facts])).funds.arbiter.print =
        [.runMark true, .debit 7 5 facts] ∧
      (next (.lineRun true) (waits [.debit 7 5 facts])).funds.arbiter.print = [.debit 7 5 facts, .runMark true] := by
  decide
theorem test_resume_throttle :
    (next .resume (lane .stopped)).pacing.lane = .ready ∧
      (next .resume { lane .stopped with pacing := { (lane .stopped).pacing with button := true } }).pacing.lane
        = .stopped ∧
      (next (.throttle true 8) (lane .running)).pacing.consoleFactor = 8 ∧
      (next (.throttle true 9) (lane .running)).pacing.consoleFactor = 1 ∧
      (next (.throttle true 0) (lane .running)).link.ack = .released := by decide
/-- A MUTE station. -/
def muted : State := { lane .ready with link := { (lane .ready).link with mute := true } }
theorem test_status_frames :
    (next (.poll 3) (lane .ready)).link.slots.reply.req = some (.status 3) ∧
      (next (.poll 3) muted).link.full .reply = true ∧ (next (.poll 3) muted).link.ack = .released ∧
      (next (.poll 4) (lane .ready)).link.full .reply = false ∧
      (next (.journalRead 1) (lane .ready)).link.slots.reply.req = some (.journal 1) ∧
      (next (.journalRead 0) (lane .ready)).link.full .reply = false ∧
      (lane .ready).link.sending .reply = false := by decide
theorem test_clear :
    (next (.clear 0x100000 0x01) (next .frameDamaged State.reset)).status.faults = [.clockInvalid] ∧
      (next (.clear 0x100000 0x01) (next .frameDamaged State.reset)).link.checkErrors = 0 ∧
      (next (.clear 0 0x1E) (next .frameDamaged State.reset)).link.checkErrors = 1 := by decide

/-! ### The franking date -/

theorem test_date_set :
    (next (.dateSet true ⟨2000, 1, 1⟩ ⟨0, 0, 0⟩) (lane .ready)).clock.date = ⟨2000, 1, 1⟩ ∧
      (next (.dateSet true ⟨2099, 12, 31⟩ ⟨23, 59, 59⟩) State.reset).clock.invalid = false ∧
      (next (.dateSet true ⟨2099, 12, 31⟩ ⟨23, 59, 59⟩) State.reset).status.faults = [.clockInvalid] ∧
      (next (.dateSet true ⟨2031, 2, 29⟩ ⟨0, 0, 0⟩) (lane .ready)).link.ack = .released ∧
      (next (.dateSet true ⟨2031, 4, 1⟩ ⟨24, 0, 0⟩) (lane .ready)).link.ack = .released ∧
      (next (.dateSet true ⟨2031, 4, 1⟩ ⟨0, 0, 0⟩) (tariffed (lane .ready) .pending)).rate.bankA.state =
        .current ∧
      (next (.dateSet true ⟨2031, 3, 31⟩ ⟨0, 0, 0⟩) (tariffed (lane .ready) .pending)).rate.bankA.state =
        .pending := by decide
theorem test_date_set_entry :
    (next (.dateSet true ⟨2031, 4, 2⟩ ⟨0, 0, 0⟩) (lane .ready)).funds.queue.length = 1 ∧
      ((next (.dateSet true ⟨2031, 4, 2⟩ ⟨0, 0, 0⟩) waiting1).clock.waitingEntry =
        some (.dateSet ⟨2031, 4, 2⟩ ⟨0, 0, 0⟩ ⟨2031, 4, 1⟩)) := by decide
theorem test_date_set_switch :
    let s := tariffed (lane .ready) .pending
    (next (.dateSet true ⟨2031, 4, 2⟩ ⟨0, 0, 0⟩) s).funds.queue =
        [.bankSwitch 42 none ⟨2031, 4, 2⟩, .dateSet ⟨2031, 4, 2⟩ ⟨0, 0, 0⟩ ⟨2031, 4, 1⟩] ∧
      roomAfter s 0 = true ∧ roomAfter s 1 = true ∧ s.funds.waiters = [] := by decide
/-- A station whose clock is updating at a time of day. -/
def updating (d : Date) (t : TimeOfDay) : State :=
  { lane .ready with clock := { (lane .ready).clock with date := d, time := t, updating := true } }
theorem test_postdate :
    (next (.postdate true 7) (lane .ready)).clock.postdate = 7 ∧
      (next (.postdate true 8) (lane .ready)).link.ack = .released ∧
      (next (.postdate true 7) (updating ⟨2031, 4, 1⟩ ⟨9, 0, 0⟩)).clock.held = [.postdate 7] := by decide
theorem test_update :
    (next .clockUpdateStart (lane .ready)).clock.updating = true ∧
      (next .clockUpdateComplete (updating ⟨2031, 4, 1⟩ ⟨9, 59, 59⟩)).clock.time = ⟨10, 0, 0⟩ ∧
      (next .clockUpdateComplete (updating ⟨2032, 2, 28⟩ ⟨23, 59, 59⟩)).clock.date = ⟨2032, 2, 29⟩ ∧
      (next .clockUpdateComplete (updating ⟨2031, 4, 1⟩ ⟨23, 59, 59⟩)).link.slots.dayTurn.req =
        some (.dayTurn ⟨2031, 4, 2⟩) ∧
      (next .clockUpdateComplete (updating ⟨2099, 12, 31⟩ ⟨23, 59, 59⟩)).status.faults = [.clockInvalid] ∧
      (updating ⟨2031, 4, 1⟩ ⟨9, 59, 59⟩).engine.rating = none := by decide
theorem test_update_takes_held :
    let s := updating ⟨2031, 4, 1⟩ ⟨9, 59, 59⟩
    let hold (l : List Held) : State := { s with clock := { s.clock with held := l } }
    (next .clockUpdateComplete (hold [.postdate 3, .postdate 5])).clock.postdate = 5 ∧
      (next .clockUpdateComplete (hold [.dayTurn ⟨2031, 4, 1⟩])).clock.heardTurn = some ⟨2031, 4, 1⟩ ∧
      (next .clockUpdateComplete (hold [.dayTurn ⟨2031, 4, 3⟩])).clock.disagree = true := by decide
theorem test_update_follows_held_day_turn :
    let hold (t : TimeOfDay) (l : List Held) : State :=
      { updating ⟨2031, 4, 1⟩ t with clock := { (updating ⟨2031, 4, 1⟩ t).clock with held := l } }
    let u := next .clockUpdateComplete (hold ⟨23, 58, 3⟩ [.postdate 2, .dayTurn ⟨2031, 4, 2⟩, .dayTurn ⟨2031, 4, 3⟩])
    let v := next .clockUpdateComplete (hold ⟨23, 59, 59⟩ [.dayTurn ⟨2031, 4, 2⟩])
    u.clock.date = ⟨2031, 4, 2⟩ ∧ u.clock.time = ⟨0, 0, 0⟩ ∧ u.clock.postdate = 2 ∧
      u.clock.heardTurn = some ⟨2031, 4, 3⟩ ∧ u.clock.disagree = true ∧ u.clock.held = [] ∧
      v.clock.date = ⟨2031, 4, 2⟩ ∧ v.clock.heardTurn = some ⟨2031, 4, 2⟩ ∧ v.clock.disagree = false := by decide
theorem test_day_turn_switches :
    let b := { bank1 .pending with effective := some ⟨2031, 4, 2⟩ }
    let s := updating ⟨2031, 4, 1⟩ ⟨23, 59, 59⟩
    let t := next .clockUpdateComplete { s with rate := { s.rate with bankA := b } }
    t.rate.bankA.state = .current ∧ t.funds.queue = [.bankSwitch 42 none ⟨2031, 4, 2⟩] ∧
      t.link.full .holdings = true := by decide
theorem test_sample_answered_at_date_set :
    let r : Rating := ⟨7, .sampling, ⟨9, 4, [], 640, 2500, 1000, 40⟩, none, none, none, none, 0, 0⟩
    let s := { carrying .running { piece .rating 100 with sampled := none, printed := none } with
      engine := { queue := [], rating := some r },
      clock := { (lane .running).clock with updating := true, postdate := 1 } }
    ((next (.dateSet true ⟨2031, 4, 5⟩ ⟨0, 0, 0⟩) s).track.find 7).bind Piece.printed = some ⟨2031, 4, 6⟩ := by
  decide
theorem test_sample_answered_at_update :
    let r : Rating := ⟨7, .sampling, ⟨9, 4, [], 640, 2500, 1000, 40⟩, none, none, none, none, 0, 0⟩
    let midway (time : TimeOfDay) (held : List Held) : State :=
      { carrying .running { piece .rating 100 with sampled := none, printed := none } with
        engine := { queue := [], rating := some r },
        clock := { (lane .running).clock with updating := true, time := time, held := held } }
    let printed (s : State) : Option Date :=
      ((next .clockUpdateComplete s).track.find 7).bind Piece.printed
    Samples (midway ⟨9, 0, 0⟩ []) r ∧ next (.dateSampleAnswer 7) (midway ⟨9, 0, 0⟩ []) = midway ⟨9, 0, 0⟩ [] ∧
      printed (midway ⟨9, 0, 0⟩ []) = some ⟨2031, 4, 1⟩ ∧ printed (midway ⟨23, 59, 59⟩ []) = some ⟨2031, 4, 2⟩ ∧
      printed (midway ⟨9, 0, 0⟩ [.postdate 3]) = some ⟨2031, 4, 1⟩ ∧
      (next .clockUpdateComplete (midway ⟨9, 0, 0⟩ [.postdate 3])).clock.postdate = 3 := by
  refine ⟨⟨rfl, rfl⟩, ?_⟩; decide
theorem test_update_on_battery :
    (next .clockUpdateComplete { updating ⟨2031, 12, 31⟩ ⟨23, 59, 59⟩ with powered := false }).clock.date =
        ⟨2032, 1, 1⟩ ∧
      (next .clockUpdateComplete { updating ⟨2099, 12, 31⟩ ⟨23, 59, 59⟩ with powered := false }).clock.invalid =
        true := by decide
theorem test_heard_day_turn :
    let late : State := { lane .ready with clock := { (lane .ready).clock with time := ⟨23, 58, 0⟩ } }
    (next (.dayTurnReceived 3 ⟨2031, 4, 2⟩) late).clock.date = ⟨2031, 4, 2⟩ ∧
      (next (.dayTurnReceived 3 ⟨2031, 4, 2⟩) (lane .ready)).clock.disagree = true ∧
      (next (.dayTurnReceived 3 ⟨2031, 4, 1⟩) (lane .ready)).clock.heardTurn = some ⟨2031, 4, 1⟩ ∧
      (next (.dayTurnReceived 3 ⟨2031, 4, 2⟩) (updating ⟨2031, 4, 1⟩ ⟨9, 0, 0⟩)).clock.held.length = 1 ∧
      (next (.dayTurnReceived 3 ⟨2031, 4, 31⟩) late).clock.heardTurn = none ∧
      (3 : Nat) ≠ late.link.station := by decide

/-! ### Other stations -/

/-- A station that mirrors another's ask. -/
def mirroring : State := { lane .running with credit := { Credit.afterReset with mirror := [(3, ⟨3000, 2000⟩)] } }
theorem test_holdings :
    lookup (next (.holdingsReceived 3 holdings1) mirroring).credit.roster 3 = some holdings1 ∧
      (next (.holdingsReceived 3 holdings1) mirroring).credit.mirror = [] ∧
      (next (.holdingsReceived 3 holdings1) mirroring).rate.ratesBehind = true ∧
      (next (.holdingsReceived 3 holdings1) mirroring).link.full .holdings = true ∧
      next (.holdingsReceived 3 { holdings1 with lane := 6 }) mirroring = mirroring := by decide
theorem test_credit_ask_and_lot_heard :
    (next (.creditAskReceived 3 99999999) (lane .running)).credit.mirror = [(3, ⟨99999999, 2000⟩)] ∧
      (next (.creditAskReceived 3 500) (lane .running)).link.slots.passage.req = some (.lotPass .ask .waiting) ∧
      next (.creditAskReceived 3 0) (lane .running) = lane .running ∧
      (next (.lotPassHeard 4 3 9 2999 1 true) mirroring).credit.mirror = [(3, ⟨1, 2000⟩)] ∧
      (next (.lotPassHeard 4 3 9 3000 1 true) mirroring).credit.mirror = [] ∧
      next (.lotPassHeard 4 3 9 3000 1 false) mirroring = mirroring := by decide
theorem test_damaged_and_duplicate :
    (next .frameDamaged (lane .running)).link.checkErrors = 1 ∧
      next (.frameDisregarded ⟨3, false⟩) (lane .running) = lane .running ∧
      next (.frameDisregarded ⟨0, false⟩) (lane .running) = lane .running ∧
      next (.frameDisregarded ⟨15, false⟩) (lane .running) = lane .running ∧
      (next (.frameDisregarded ⟨1, false⟩) (lane .running)).link.duplicate = true ∧
      (next (.frameDisregarded ⟨1, false⟩) (lane .running)).pacing.lane = .stopped ∧
      (next (.frameDisregarded ⟨1, false⟩) (lane .running)).status.faults = [.duplicateStation] := by decide
theorem test_disregarded_own_frame_not_acknowledged :
    let acked1 := next (.throttle true 1) (lane .ready)
    acked1.link.ack = .driven ∧ (next (.frameDisregarded ⟨15, true⟩) acked1).link.ack = .released ∧
      (next (.frameDisregarded ⟨0, true⟩) acked1).link.ack = .released ∧
      (next (.frameDisregarded ⟨3, false⟩) acked1).link.ack = .driven := by decide
/-- A station whose number strap gives `n`. -/
def numbered (n : Nat) : State := { lane .running with link := { (lane .running).link with station := n } }
theorem test_source_boundaries :
    (next (.frameDisregarded ⟨14, false⟩) (numbered 14)).link.duplicate = true ∧
      (next (.frameDisregarded ⟨15, true⟩) (numbered 15)).link.duplicate = false ∧
      (next (.frameDisregarded ⟨0, true⟩) (numbered 0)).link.duplicate = false := by decide
theorem test_own_number_heard :
    ([.holdingsReceived 1 holdings1, .creditAskReceived 1 500, .lotPassHeard 1 3 9 500 1 true,
        .lotPassReceived 1 9 500 2, .passQueryReceived 1 9, .passAnswerReceived 1 9 1,
        .dayTurnReceived 1 ⟨2031, 4, 1⟩, .hushReceived 1, .holdReceived 1, .wakeReceived 1] : List Instr).all
      (fun c =>
        let t := next c mirroring
        t.link.duplicate && t.link.mute && t.status.holds 2 && (t.pacing.lane == .stopped)) = true ∧
      (next (.holdingsReceived 1 holdings1) mirroring).credit.roster = [] ∧
      (next (.holdingsReceived 1 holdings1) mirroring).rate.highestHeard = some 42 ∧
      (next (.lotPassReceived 1 9 500 2) mirroring).link.ack = .released ∧
      (next (.dayTurnReceived 1 ⟨2031, 4, 1⟩) mirroring).clock.heardTurn = some ⟨2031, 4, 1⟩ ∧
      mirroring.link.station = 1 ∧ mirroring.link.dispatchOpen = true := by decide
theorem test_lot_pass :
    (next (.lotPassReceived 3 1 2000 2) (lane .ready)).funds.arbiter.writing = some (.lotIn 3 1 2000) ∧
      (next (.lotPassReceived 3 1 2000 1) asking).funds.arbiter.writing = some (.lotIn 3 1 2000) ∧
      (next (.lotPassReceived 3 1 2000 1) (lane .running)).link.ack = .released ∧
      (next (.lotPassReceived 3 1 2000 3) asking).link.ack = .released ∧
      (next (.lotPassReceived 3 1 2000 2) (writing (lane .ready) (.runMark true))).funds.arbiter.link =
        some (.lotIn 3 1 2000) ∧
      (next (.lotPassReceived 3 1 2000 2) muted).link.ack = .released := by decide
/-- A station that has settled passage 4 of station 3. -/
def settled4 : State :=
  { lane .ready with funds := { (lane .ready).funds with store :=
      { (lane .ready).funds.store with settled := [(3, ⟨4, some .taken⟩)] } } }
theorem test_query :
    (next (.passQueryReceived 3 4) settled4).link.slots.passAnswer.req = some (.passAnswer 3 4 .taken) ∧
      (next (.passQueryReceived 3 5) settled4).funds.arbiter.writing = some (.settleNotTaken 3 5) ∧
      (next (.passQueryReceived 3 3) settled4).status.faults = [.queryStale 3 3] ∧
      (next (.passQueryReceived 3 0) settled4).link.ack = .released ∧
      settled4.credit.inHand = none := by decide
theorem test_answer :
    (next (.passAnswerReceived 3 1 2) lending).funds.arbiter.writing = some (.lotOutEnd 1 .notTaken) ∧
      (next (.passAnswerReceived 3 2 2) lending).funds.arbiter.writing = none ∧
      (next (.passAnswerReceived 3 2 2) lending).link.ack = .driven ∧
      (next (.passAnswerReceived 3 1 3) lending).link.ack = .released ∧
      (next (.passAnswerReceived 3 1 1) (writing lending (.runMark true))).funds.arbiter.credit =
        [.lotOutEnd 1 .taken] := by decide

/-! ### Hush and wake -/

/-- A RUNNING lane, idle, with an objection window. -/
def windowed (asked : Bool) : State :=
  { lane .running with pacing := { (lane .running).pacing with window := some ⟨20, asked⟩ } }
/-- A RUNNING lane whose idle timer runs. -/
def idling : State := { lane .running with pacing := { (lane .running).pacing with idleTimer := some 30 } }
theorem test_hush :
    (next .idleTimerExpiry idling).link.slots.hush.req = some .hush ∧ next .idleTimerExpiry (lane .ready) = lane .ready ∧
      (next (.hushReceived 3) idling).pacing.window = some ⟨20, false⟩ ∧
      (next (.hushReceived 3) (next .idleTimerExpiry idling)).link.full .hush = false ∧
      next (.hushReceived 3) (lane .ready) = lane .ready ∧
      (next (.holdReceived 3) (windowed false)).pacing.window = none ∧
      next (.holdReceived 3) (lane .running) = lane .running := by decide
theorem test_wake_and_window_end :
    (next (.wakeReceived 3) (lane .quiet)).pacing.lane = .running ∧
      (next (.wakeReceived 3) (windowed false)).pacing.window = none ∧
      next (.wakeReceived 3) (lane .running) = lane .running ∧
      (next .objectionWindowEnd (windowed false)).pacing.lane = .quiet ∧
      (next .objectionWindowEnd (windowed true)).pacing.lane = .running ∧
      (next .objectionWindowEnd (windowed true)).link.full .wake = true ∧
      next .objectionWindowEnd (lane .running) = lane .running := by decide

/-! ### Transmission -/

/-- A station with a request in a slot. -/
def asked (s : State) (i : SlotId) (r : Req) : State := s.request i r
theorem test_gap :
    (next .gapExpiry (asked (lane .ready) .holdings (.holdings false))).link.attempt.map Attempt.gap = some 41 ∧
      (next .gapExpiry (asked (lane .ready) .wake .wake)).link.attempt = some ⟨.wake, 0, .wake, 3⟩ ∧
      (next .gapExpiry (asked muted .wake .wake)).link.attempt = none ∧
      (next .gapExpiry (asked (lane .ready) .passage (.lotPass .ask .waiting))).link.attempt = none ∧
      next .gapExpiry (lane .ready) = lane .ready ∧
      (next .gapExpiry (asked { lane .ready with link := { (lane .ready).link with stuck := true } } .wake
        .wake)).link.attempt = none := by decide
theorem test_replies :
    let st := { (lane .ready).funds.store with
      ring := (List.range 6).map (fun i => { number := i + 5, entry := .refill i 100 }) }
    let s := { lane .ready with funds := { (lane .ready).funds with store := st } }
    ((s.content (.journal 6)).map (fun x => match x.2 with
        | .journal _ oldest newest entries => (oldest, newest, entries.map Placed.number)
        | _ => (none, none, [])) = some (some 5, some 10, [6, 7, 8, 9])) ∧
      (lane .ready).conditionMask = 0 ∧ (next .frameDamaged State.reset).status.mask = 0x100200 ∧
      (lane .ready).statusPayload 3 =
        (lane .ready).statusHead 3 ++ List.replicate 22 0#8 := by decide +kernel
/-- A station whose yield flags are all set. -/
def yielding : State :=
  { lane .ready with link := { (lane .ready).link with yieldUrgent := true, yieldCredit := true, yieldRoutine := true } }
theorem test_defer_and_yield :
    (next .defer (asked yielding .wake .wake)).link.yieldUrgent = false ∧
      (next .defer (asked yielding .wake .wake)).link.yieldRoutine = true ∧
      (next .yieldTimeout yielding).link.yieldCredit = false ∧ yielding.link.gapOf .routine = 57 := by decide
theorem test_cut_off_and_stuck :
    (next .arbitrationLoss (attempting (lane .ready) .hold .hold)).link.attempt = none ∧
      (next .arbitrationLoss (attempting (lane .ready) .hold .hold)).link.full .hold = true ∧
      (next .linkStuck (lane .ready)).link.stuck = true ∧
      (next .linkStuckEnd (next .linkStuck (lane .ready))).link.stuck = false := by decide
/-- A station whose withdrawn PASS QUERY is being sent while a remit goes on. -/
def queryLeaving : State :=
  let s := attempting { lane .ready with credit := { Credit.afterReset with remit := some ⟨3, none⟩ } } .passage
    (.passQuery 1)
  { s with link := { s.link with slots := { s.link.slots with
      passage := { req := some (.passQuery 3 1), fixed := some (.passQuery 1), later := some none } } } }
theorem test_passage_slot_empties :
    queryLeaving.link.full .passage = true ∧
      (next .frameSent queryLeaving).link.slots.passage = .holding (.lotPass .remit .waiting) ∧
      (next .arbitrationLoss queryLeaving).link.slots.passage = .holding (.lotPass .remit .waiting) ∧
      (next .arbitrationLoss { queryLeaving with credit := Credit.afterReset }).link.full .passage = false ∧
      (next .arbitrationLoss { queryLeaving with credit := mirroring.credit }).link.slots.passage =
        .holding (.lotPass .ask .waiting) := by decide
theorem test_frame_sent :
    (next .frameSent (attempting (lane .ready) .hold .hold)).link.full .hold = false ∧
      (next .frameSent (attempting (lane .ready) .hold .hold)).link.yieldUrgent = true ∧
      (next .frameSent (attempting (lane .ready) .hold .hold)).link.report = some ⟨.hold, 0, .hold, 50⟩ ∧
      (next .holdSent (attempting (lane .ready) .hold .hold)).link.full .wake = true ∧
      (next .frameSent { queryLeaving with link := { queryLeaving.link with
        attempt := some ⟨.hold, 0, .hold, 50⟩ } }).link.slots.passage = queryLeaving.link.slots.passage ∧
      next .frameSent (lane .ready) = lane .ready := by decide
theorem test_lot_reports :
    (next (.lotPassSent true) (reporting lending .passage (.lotPass 1 2000 .ask))).funds.arbiter.writing =
        some (.lotOutEnd 1 .taken) ∧
      (next (.lotPassSent false) (reporting lending .passage (.lotPass 1 2000 .ask))).credit.query =
        some ⟨some 500, 0⟩ ∧
      (next .passQuerySent { reporting lending .passage (.passQuery 1) with
        credit := { Credit.afterReset with query := some ⟨some 500, 0⟩ } }).credit.query = some ⟨some 500, 1⟩ ∧
      next .passQuerySent (lane .ready) = lane .ready := by decide
theorem test_other_reports :
    (next .hushSent (reporting (lane .running) .hush .hush)).pacing.window = some ⟨20, false⟩ ∧
      (next .hushSent (reporting (lane .ready) .hush .hush)).pacing.window = none ∧
      (next .holdSent (reporting (windowed true) .hold .hold)).pacing.window = none ∧
      (next .statusSent (reporting (lane .ready) .reply (.status 0 []))).clock.latchReported = true ∧
      (next .journalSent (reporting (lane .ready) .reply (.journal 9 (some 1) (some 5) []))).status.readMarker = 5 ∧
      (next .journalSent (reporting (lane .ready) .reply (.journal 9 none none []))).status.readMarker = 0 ∧
      reports .holdSent .hold := ⟨by decide, by decide, by decide, by decide, by decide, by decide, rfl⟩

/-! ### Lending, asking, the timers -/

/-- A lender whose LOT PASS has its turn. -/
def turning (s : State) (p : Purpose) : State := asked s .passage (.lotPass p .waiting)
/-- A station with a remit in progress. -/
def remitting (r : Option Nat) : State :=
  { lane .ready with credit := { Credit.afterReset with remit := some ⟨3, r⟩ } }
theorem test_lot_pass_turn :
    (turning mirroring .ask).link.mayBegin = true ∧ (turning mirroring .ask).link.nextSlot = some .passage ∧
      (turning mirroring .ask).lendingHolds = true ∧ (turning mirroring .ask).chosenBorrower = some (3, ⟨3000, 2000⟩) ∧
      (next .lotPassTurn (turning mirroring .ask)).funds.arbiter.writing = some (.lotOutStart 3 3000 .ask) ∧
      (next .lotPassTurn (turning (lane .running) .ask)).link.full .passage = false ∧
      next .lotPassTurn (lane .running) = lane .running := by decide
theorem test_lending_test :
    mirroring.lendingHolds = true ∧ mirroring.link.slots.passage.req = none ∧
      mirroring.lendingTest.link.slots.passage = .holding (.lotPass .ask .waiting) ∧
      (turning mirroring .remit).lendingTest = turning mirroring .remit ∧
      (lane .running).lendingTest = lane .running := by decide
theorem test_remit_turn :
    (next .lotPassTurn (turning (remitting none) .remit)).funds.arbiter.writing =
        some (.lotOutStart 3 20000 .remit) ∧
      (next .lotPassTurn (turning (remitting (some 600)) .remit)).funds.arbiter.writing =
        some (.lotOutStart 3 600 .remit) ∧
      (next .lotPassTurn (turning { remitting (some 600) with funds := { (lane .ready).funds with
        reserved := 20000 } } .remit)).status.faults = [.remitIncomplete 3 600] ∧
      (next .lotPassTurn (turning { remitting none with funds := { (lane .ready).funds with
        reserved := 20000 } } .remit)).credit.remit = none := by decide
theorem test_lot_out_start_refused :
    let begun := turning (remitting (some 600)) .remit
    let faulty := next .lotPassTurn { begun with funds := { begun.funds with storeFault := true } }
    let waits : State := { writing begun (.refill 2 5) with funds := { begun.funds with
      reserved := 20000,
      arbiter := { Arbiter.free with writing := some (.refill 2 5), credit := [.lotOutStart 3 600 .remit] } } }
    let short := next (.refillComplete true) waits
    faulty.credit.remit = none ∧ faulty.link.full .passage = false ∧
      faulty.status.faults = [.remitIncomplete 3 600] ∧ waits.verdict (.lotOutStart 3 600 .remit) = .refused .short ∧
      short.credit.remit = none ∧ short.status.faults = [.remitIncomplete 3 600] := by decide
theorem test_lot_out_end_refused :
    let faulty := { lending with funds := { lending.funds with storeFault := true } }
    let other : State := { writing lending (.refill 1 5) with funds := { lending.funds with arbiter :=
      { Arbiter.free with writing := some (.refill 1 5), credit := [.lotOutEnd 9 .taken] } } }
    (next (.passAnswerReceived 3 1 2) faulty).credit.query = some ⟨none, 0⟩ ∧
      (next (.passAnswerReceived 3 1 2) faulty).funds.store = lending.funds.store ∧
      (next (.refillComplete true) other).credit.query = some ⟨some 500, 0⟩ := by decide
theorem test_settle_not_taken_refused :
    let faulty := { settled4 with funds := { settled4.funds with storeFault := true } }
    let stale : State := { settled4 with
      credit := { settled4.credit with inHand := some ⟨3, 5⟩ },
      funds := { settled4.funds with arbiter :=
        { Arbiter.free with writing := some (.lotIn 3 5 100), credit := [.settleNotTaken 3 5] } } }
    (next (.passQueryReceived 3 5) faulty).link.slots.passAnswer = .empty ∧
      (next (.passQueryReceived 3 5) faulty).credit.inHand = none ∧
      (next (.lotInComplete true) stale).link.slots.passAnswer.req = some (.passAnswer 3 5 .taken) := by decide
/-- A RUNNING station that wants credit: 299 spendable, below its low mark. -/
def wanting (c : Credit) : State :=
  { lane .running with credit := c, funds := { (lane .running).funds with reserved := 19701 } }
theorem test_ask_deadline :
    (next .askDeadline asking).credit.ask = none ∧ (next .askDeadline asking).credit.creditShort = false ∧
      (next .askDeadline asking).link.slots.holdings = .holding (.holdings false) ∧
      (next .askDeadline (wanting asking.credit)).credit.backOff = some 8000 ∧
      (next .askDeadline (wanting asking.credit)).status.faults = [.creditShort] ∧
      next .askDeadline (lane .running) = lane .running := by decide
theorem test_back_off_end :
    (next .backOffEnd (wanting { Credit.afterReset with backOff := some 8000 })).credit.ask = some ⟨3000, 2000⟩ ∧
      (next .backOffEnd { lane .running with credit := { Credit.afterReset with
        backOff := some 8000, creditShort := true } }).credit.creditShort = false ∧
      next .backOffEnd (lane .running) = lane .running := by decide
theorem test_mirror_and_query_timers :
    (next (.mirrorTimerExpiry 3) mirroring).credit.mirror = [] ∧
      next (.mirrorTimerExpiry 4) mirroring = mirroring ∧
      (next .queryTimerExpiry { lending with credit := { Credit.afterReset with
        query := some ⟨some 500, 19⟩ } }).credit.passUnresolved = false ∧
      (next .queryTimerExpiry { lending with credit := { Credit.afterReset with
        query := some ⟨some 500, 20⟩ } }).status.faults = [.passUnresolved] ∧
      (next .queryTimerExpiry { lending with credit := { Credit.afterReset with
        query := some ⟨some 500, 0⟩ } }).link.slots.passage.req = some (.passQuery 3 1) ∧
      next .queryTimerExpiry lending = lending := by decide
theorem test_no_fault_once_answered :
    let s := { writing lending (.lotOutEnd 1 .taken) with credit := { Credit.afterReset with
      query := some ⟨some 500, 20⟩ } }
    (next .queryTimerExpiry s).status.faults = [] ∧ (next .queryTimerExpiry s).credit.passUnresolved = false := by
  decide
theorem test_borrower_ties :
    let two := { lane .running with credit := { Credit.afterReset with
      mirror := [(2, ⟨500, 2000⟩), (3, ⟨900, 2000⟩), (5, ⟨900, 2000⟩)] } }
    let known := { two with credit := { two.credit with
      roster := [(3, holdings1), (5, holdings1)] } }
    ((lane .running).chosenBorrower = none) ∧ (two.chosenBorrower.map Prod.fst = some 2) ∧ (known.chosenBorrower.map Prod.fst = some 3) ∧
      (next (.creditAskReceived 4 700) two).credit.mirror.map Prod.fst = [2, 3, 4, 5] := by decide
theorem test_mirror_rising : mirroring.mirrorRising := by unfold State.mirrorRising; decide

/-! ### The stop button and the head temperature -/

/-- A lane with the stop button held and its hold timer running. -/
def pressed (s : State) : State :=
  { s with pacing := { s.pacing with button := true, holdTimer := some 4000 } }
theorem test_stop_button_press :
    (next .stopButtonPress (lane .running)).pacing.holdTimer = some 4000 ∧
      (next .stopButtonPress (lane .quiet)).pacing.lane = .running ∧
      (next .stopButtonPress (lane .quiet)).link.full .wake = true ∧
      (next .stopButtonPress (lane .ready)).pacing.holdTimer = none := by decide
theorem test_stop_button_release :
    (next .stopButtonRelease (pressed (lane .running))).pacing.lane = .ready ∧
      (next .stopButtonRelease (pressed (carrying .running (piece .rated 100)))).pacing.lane = .draining ∧
      (next .stopButtonRelease (pressed (lane .draining))).pacing.holdTimer = none ∧
      (next .stopButtonRelease (lane .running)).pacing.lane = .running ∧
      (next .stopButtonRelease { lane .running with pacing := { (lane .running).pacing with
        button := true } }).pacing.idleTimer = some 30 := by decide
theorem test_hold_timer :
    (next .holdTimerExpiry (pressed (carrying .running (piece .rated 100)))).pacing.lane = .stopped ∧
      (next .holdTimerExpiry (pressed (carrying .running (piece .rated 100)))).track.records = [] ∧
      next .holdTimerExpiry (lane .running) = lane .running := by decide
theorem test_heat :
    (next .headTemperatureRise (lane .running)).pacing.heatTimer = some 2000 ∧
      (next .headTemperatureRise (lane .ready)).pacing.heatTimer = none ∧
      (next .heatTimerExpiry (next .headTemperatureRise (lane .running))).pacing.heatActive = true ∧
      (next .heatTimerExpiry (next .headTemperatureRise (lane .running))).throttleFactor = 4 ∧
      (next .headTemperatureFall (next .headTemperatureRise (lane .running))).pacing.heatTimer = none ∧
      next .heatTimerExpiry (lane .running) = lane .running := by decide

end Sys2Proof.Tests
end

section
/-! SUPPORT. The weigh unit and the dimension bar (chapter 2): what records, platform entries, samples and bar messages
become, said once, and the statements about them. -/

namespace Sys2Proof.Proofs.Weighing
open Sys2Proof Sys2Proof.Machine

/-! ### Records and entries changed by tag -/

theorem onTag_onTag (tag : Nat) (f g : Piece → Piece) (l : List Piece) (h : ∀ p, (g p).tag = p.tag) :
    onTag tag f (onTag tag g l) = onTag tag (fun p => f (g p)) l := by
  unfold onTag
  rw [List.map_map]
  refine List.map_congr_left fun p _ => ?_
  by_cases e : p.tag = tag
  · simp [e, h]
  · simp [e]

theorem onTag_unchanged (tag : Nat) (f : Piece → Piece) (l : List Piece) (h : ∀ p, f p = p) :
    onTag tag f l = l := by
  simp [onTag, h]

theorem update_eq_onTag (t : Track) (tag : Nat) (f : Piece → Piece) :
    t.update tag f = { t with records := onTag tag f t.records } := by
  simp [Track.update, onTag]

theorem tag_of_find {t : Track} {tag : Nat} {p : Piece} (h : t.find tag = some p) : p.tag = tag := by
  simpa using List.find?_some h

/-- The record found by a tag after the records of another or the same tag changed. -/
theorem find_update (t : Track) (tag x : Nat) (f : Piece → Piece) (h : ∀ p, (f p).tag = p.tag) :
    (t.update tag f).find x = (t.find x).map (fun p => if p.tag == tag then f p else p) := by
  unfold Track.find Track.update
  have keeps (p : Piece) : (if p.tag == tag then f p else p).tag = p.tag := by split <;> simp [h]
  rw [List.find?_map]
  simp only [Function.comp_def, keeps]

theorem find_update_same {t : Track} {tag : Nat} {p : Piece} (f : Piece → Piece)
    (h : ∀ p, (f p).tag = p.tag) (found : t.find tag = some p) :
    (t.update tag f).find tag = some (f p) := by
  simp [find_update t tag tag f h, found, tag_of_find found]

theorem others_update (t : Track) (tag : Nat) (f : Piece → Piece) (h : ∀ p, (f p).tag = p.tag) :
    (t.update tag f).others tag = t.others tag := by
  unfold Track.others Track.update
  induction t.records with
  | nil => rfl
  | cons p l ih =>
    by_cases e : p.tag = tag
    · simpa [e, h] using ih
    · simpa [e] using ih

theorem weighUpdate_eq_onEntry (w : Weigh) (tag : Nat) (f : PlatformEntry → PlatformEntry) :
    w.update tag f = { w with platform := onEntry tag f w.platform } := by
  simp [Weigh.update, onEntry]

/-- The zero history's sum as a list's sum (R25). -/
theorem zeroSum_eq_sum (w : Weigh) : w.zeroSum = (w.zero.getD []).sum := by
  simp [Weigh.zeroSum, List.sum_eq_foldl]

/-! ### A record that becomes complete (R13) -/

section
variable (s : State) (tag : Nat)

theorem becomeReady_incomplete {p : Piece} (found : s.track.find tag = some p) (h : p.complete = false) :
    s.becomeReady tag = s := by
  simp [State.becomeReady, found, h]

theorem becomeReady_complete {p : Piece} (found : s.track.find tag = some p) (h : p.complete = true) :
    s.becomeReady tag = (s.setRecord tag (fun q => { q with state := .readyToRate })).mapEngine
      (fun e => { e with queue := e.queue ++ [tag] }) := by
  simp [State.becomeReady, found, h]

/-- What passing to READY TO RATE can do: nothing, or the record's state and the rating queue. -/
theorem becomeReady_cases : s.becomeReady tag = s ∨
    s.becomeReady tag = (s.setRecord tag (fun q => { q with state := .readyToRate })).mapEngine
      (fun e => { e with queue := e.queue ++ [tag] }) := by
  cases found : s.track.find tag with
  | none => left; simp [State.becomeReady, found]
  | some p =>
    cases h : p.complete with
    | false => exact .inl (becomeReady_incomplete s tag found h)
    | true => exact .inr (becomeReady_complete s tag found h)

@[simp] theorem becomeReady_weigh : (s.becomeReady tag).weigh = s.weigh := by
  rcases becomeReady_cases s tag with h | h <;> simp [h]
@[simp] theorem becomeReady_funds : (s.becomeReady tag).funds = s.funds := by
  rcases becomeReady_cases s tag with h | h <;> simp [h]
@[simp] theorem becomeReady_pacing : (s.becomeReady tag).pacing = s.pacing := by
  rcases becomeReady_cases s tag with h | h <;> simp [h]
@[simp] theorem becomeReady_status : (s.becomeReady tag).status = s.status := by
  rcases becomeReady_cases s tag with h | h <;> simp [h]
theorem becomeReady_others : (s.becomeReady tag).track.others tag = s.track.others tag := by
  rcases becomeReady_cases s tag with h | h <;> simp [h, others_update]

theorem becomeReady_find {p : Piece} (found : s.track.find tag = some p) :
    (s.becomeReady tag).track.find tag =
      some { p with state := if p.complete then .readyToRate else p.state } := by
  cases h : p.complete with
  | false => simp [becomeReady_incomplete s tag found h, found]
  | true =>
    rw [becomeReady_complete s tag found h, mapEngine_track, setRecord_track]
    exact find_update_same (fun q => { q with state := .readyToRate }) (fun _ => rfl) found

theorem becomeReady_queue {p : Piece} (found : s.track.find tag = some p) :
    (s.becomeReady tag).engine.queue = if p.complete then s.engine.queue ++ [tag] else s.engine.queue := by
  cases h : p.complete with
  | false => simp [becomeReady_incomplete s tag found h]
  | true => simp [becomeReady_complete s tag found h]

end

/-! ### Position events (R2, R14) -/

/-- A powered, configured part whose record `p` of the tag has reached a position event not yet taken. -/
structure EventDue (s : State) (g : Settings) (p : Piece) (tag : Nat) (taken : Marks → Bool)
    (position : Geometry → Nat) : Prop where
  on : s.powered = true
  configured : s.pacing.settings = some g
  found : s.track.find tag = some p
  fresh : taken p.marks = false
  there : reached s.io.encoder (p.lead + BitVec.ofNat 32 (position g.geometry)) = true

theorem atEvent_due {s : State} {g : Settings} {p : Piece} {tag : Nat} {taken : Marks → Bool}
    {position : Geometry → Nat} (due : EventDue s g p tag taken position)
    (f : Settings → Piece → State → State) : s.atEvent tag taken position f = f g p s := by
  simp [State.atEvent, due.configured, due.found, due.fresh, after, due.there]

/-! ### Entries closed (R30 to R33) -/

/-- A closing event leaves an entry that is DONE as it is. -/
theorem closeEntry_done (s : State) (g : Settings) {e : PlatformEntry} (missed : WeighSub)
    (h : e.phase = .done) : s.closeEntry g e missed = s := by
  simp [State.closeEntry, h]

/-- A closing event fails a WAITING entry with its own sub-reason and an OPEN one with that of its window. -/
theorem closeEntry_fails (s : State) (g : Settings) {e : PlatformEntry} {missed sub : WeighSub}
    (h : (e.phase = .waiting ∧ sub = missed) ∨
      (∃ w, e.phase = .weighing w ∧
        w.judge g.minSamples g.steadiness ((s.weigh.zero.getD []).sum) = .error sub)) :
    s.closeEntry g e missed = (s.entryDone e.tag).failRecord e.tag (.weighFail sub) := by
  rcases h with ⟨waiting, rfl⟩ | ⟨w, weighing, judged⟩
  · simp [State.closeEntry, waiting, State.weighOutcome]
  · simp [State.closeEntry, weighing, State.weighOutcome, zeroSum_eq_sum, judged]

/-- A closing event sets the weight of an OPEN entry's window on its record. -/
theorem closeEntry_weighs (s : State) (g : Settings) {e : PlatformEntry} (missed : WeighSub) {w : Window}
    {grams : Nat} (h : e.phase = .weighing w)
    (judged : w.judge g.minSamples g.steadiness ((s.weigh.zero.getD []).sum) = .ok grams) :
    s.closeEntry g e missed =
      ((s.entryDone e.tag).setRecord e.tag (fun p => { p with weight := some grams })).becomeReady e.tag := by
  simp [State.closeEntry, h, State.weighOutcome, zeroSum_eq_sum, judged]

theorem entryDone_eq (s : State) (tag : Nat) : s.entryDone tag =
    { s with weigh := { s.weigh with
      platform := onEntry tag (fun x => { x with phase := .done }) s.weigh.platform } } := by
  simp [State.entryDone, State.mapWeigh, weighUpdate_eq_onEntry]

/-- A record given a weigh failure, unless it is past its failing (R12, R33). -/
def failed (sub : WeighSub) (q : Piece) : Piece :=
  if q.state.unaccepted then { q with state := .failed, reason := some (.divert (.weighFail sub)) } else q

theorem failed_tag (sub : WeighSub) (q : Piece) : (failed sub q).tag = q.tag := by
  unfold failed; split <;> rfl

theorem failRecord_eq (s : State) (tag : Nat) (sub : WeighSub) : s.failRecord tag (.weighFail sub) =
    { s with track := { s.track with records := onTag tag (failed sub) s.track.records } } := by
  simp [State.failRecord, State.setRecord, State.mapTrack, update_eq_onTag]
  rfl

theorem mark_eq (s : State) (tag : Nat) (f : Marks → Marks) : s.mark tag f =
    { s with track := { s.track with
      records := onTag tag (fun q => { q with marks := f q.marks }) s.track.records } } := by
  simp [State.mark, State.setRecord, State.mapTrack, update_eq_onTag]

@[simp] theorem mark_weigh (s : State) (tag : Nat) (f : Marks → Marks) : (s.mark tag f).weigh = s.weigh := rfl
@[simp] theorem mark_track (s : State) (tag : Nat) (f : Marks → Marks) :
    (s.mark tag f).track = s.track.update tag (fun q => { q with marks := f q.marks }) := rfl
@[simp] theorem entryDone_track (s : State) (tag : Nat) : (s.entryDone tag).track = s.track := rfl

/-- The state with the platform start of the record marked as taken (R2). -/
def startMarked (s : State) (tag : Nat) : State := s.mark tag (fun m => { m with platformStart := true })

/-- The state with the platform end of the record marked as taken (R2). -/
def endMarked (s : State) (tag : Nat) : State := s.mark tag (fun m => { m with platformEnd := true })

@[simp] theorem startMarked_weigh (s : State) (tag : Nat) : (startMarked s tag).weigh = s.weigh := rfl
@[simp] theorem endMarked_weigh (s : State) (tag : Nat) : (endMarked s tag).weigh = s.weigh := rfl

theorem endMarked_others (s : State) (tag : Nat) : (endMarked s tag).track.others tag = s.track.others tag :=
  others_update _ _ _ (fun _ => rfl)

theorem startMarked_find {s : State} {tag x : Nat} {q : Piece} (found : s.track.find x = some q) :
    (startMarked s tag).track.find x =
      some (if q.tag == tag then { q with marks := { q.marks with platformStart := true } } else q) := by
  simp [startMarked, find_update, found]

theorem endMarked_find {s : State} {tag : Nat} {p : Piece} (found : s.track.find tag = some p) :
    (endMarked s tag).track.find tag = some { p with marks := { p.marks with platformEnd := true } } :=
  find_update_same (fun q => { q with marks := { q.marks with platformEnd := true } }) (fun _ => rfl) found

/-- The weigh unit after an entry not yet DONE is closed: its entry is, and nothing else (R30, R31). -/
theorem closeEntry_weigh (s : State) (g : Settings) {e : PlatformEntry} (missed : WeighSub)
    (h : e.phase ≠ .done) : (s.closeEntry g e missed).weigh = (s.entryDone e.tag).weigh := by
  have kept (t : State) (o : Except WeighSub Nat) : (t.weighOutcome e.tag o).weigh = t.weigh := by
    cases o <;> simp [State.weighOutcome, State.failRecord]
  unfold State.closeEntry
  split
  · exact absurd ‹_› h
  · exact kept _ _
  · exact kept _ _

theorem entryDone_phases (s : State) (tag : Nat) :
    ∀ x ∈ (s.entryDone tag).weigh.platform, x.tag = tag → x.phase = .done := by
  intro x mem same
  rw [entryDone_eq] at mem
  obtain ⟨y, -, rfl⟩ := List.mem_map.1 mem
  by_cases h : y.tag = tag
  · simp [h]
  · simp [h] at same

/-- The record of an entry closed with a failure (R33). -/
theorem failed_find {s : State} {g : Settings} {e : PlatformEntry} {missed sub : WeighSub} {w : Window}
    {p : Piece} (h : e.phase = .weighing w)
    (judged : w.judge g.minSamples g.steadiness ((s.weigh.zero.getD []).sum) = .error sub)
    (found : s.track.find e.tag = some p) :
    (s.closeEntry g e missed).track.find e.tag = some (failed sub p) := by
  rw [closeEntry_fails s g (.inr ⟨w, h, judged⟩)]
  exact find_update_same (failed sub) (failed_tag sub) found

/-- The record of an entry closed with a weight (R33, R13). -/
theorem weighed_find {s : State} {g : Settings} {e : PlatformEntry} {missed : WeighSub} {w : Window}
    {grams : Nat} {p : Piece} (h : e.phase = .weighing w)
    (judged : w.judge g.minSamples g.steadiness ((s.weigh.zero.getD []).sum) = .ok grams)
    (found : s.track.find e.tag = some p) :
    (s.closeEntry g e missed).track.find e.tag =
      some { p with weight := some grams,
                    state := if { p with weight := some grams }.complete then .readyToRate else p.state } := by
  rw [closeEntry_weighs s g missed h judged]
  refine becomeReady_find _ _ (p := { p with weight := some grams }) ?_
  exact find_update_same (fun q => { q with weight := some grams }) (fun _ => rfl) found

/-- The rating queue after an entry closed with a weight (R13, R33). -/
theorem weighed_queue {s : State} {g : Settings} {e : PlatformEntry} {missed : WeighSub} {w : Window}
    {grams : Nat} {p : Piece} (h : e.phase = .weighing w)
    (judged : w.judge g.minSamples g.steadiness ((s.weigh.zero.getD []).sum) = .ok grams)
    (found : s.track.find e.tag = some p) :
    (s.closeEntry g e missed).engine.queue =
      if { p with weight := some grams }.complete then s.engine.queue ++ [e.tag] else s.engine.queue := by
  rw [closeEntry_weighs s g missed h judged]
  refine becomeReady_queue _ _ (p := { p with weight := some grams }) ?_
  exact find_update_same (fun q => { q with weight := some grams }) (fun _ => rfl) found

/-- Which records are complete (R13). -/
theorem complete_iff (p : Piece) : p.complete = true ↔ p.state = .measuring ∧ p.note.isSome ∧
    p.weight.isSome ∧ p.length.isSome ∧ p.width.isSome ∧ p.thickness.isSome := by
  simp [Piece.complete, and_assoc]

/-! ### The platform's events (R27, R29 to R31) -/

section
variable {s : State} {g : Settings} {p : Piece} {tag : Nat} {e : PlatformEntry}

/-- A platform start with no entry on the list (R27). -/
theorem platformStart_alone (due : EventDue s g p tag Marks.platformStart Geometry.p0)
    (moving : s.pacing.lane.moving = true) (alone : s.weigh.platform.getLast? = none) :
    exec (.platformStartEvent tag) s = .next (State.settle
      ((startMarked s tag).mapWeigh (fun w =>
        { w with platform := w.platform ++
          [{ tag := tag, lead := p.lead, trail := p.trail, phase := .waiting }] }))) := by
  change execPlatformStartEvent tag s = _
  rw [execPlatformStartEvent, live_powered s due.on, moving, onlyIf_true, atEvent_due due]
  simp only [startMarked, mark_weigh, alone]

/-- A platform start with an entry before it, which is closed first (R27, R30, R31). -/
theorem platformStart_behind (due : EventDue s g p tag Marks.platformStart Geometry.p0)
    (moving : s.pacing.lane.moving = true) (newest : s.weigh.platform.getLast? = some e) :
    exec (.platformStartEvent tag) s = .next (State.settle
      (((startMarked s tag).closeEntry g e .shortWindow).mapWeigh
        (fun w => { w with platform := w.platform ++
          [{ tag := tag, lead := p.lead, trail := p.trail, phase := .waiting }] }))) := by
  change execPlatformStartEvent tag s = _
  rw [execPlatformStartEvent, live_powered s due.on, moving, onlyIf_true, atEvent_due due]
  simp only [startMarked, mark_weigh, newest]

/-- A platform end closes the entry of its record (R30, R31). -/
theorem platformEnd_closes (due : EventDue s g p tag Marks.platformEnd Geometry.p1)
    (entry : s.weigh.platform.find? (fun x => x.tag == tag) = some e) :
    exec (.platformEndEvent tag) s = .next (State.settle
      ((endMarked s tag).closeEntry g e .overlong)) := by
  change execPlatformEndEvent tag s = _
  rw [execPlatformEndEvent, live_powered s due.on, atEvent_due due]
  simp only [endMarked, mark_weigh, entry]

end

/-- Settles O23: the newest entry is absent or DONE, is closed with a failure, or is closed with a weight. -/
theorem platformStartAddsEntry : Obligations.PlatformStartAddsEntry := by
  intro s g p tag on moving configured found fresh there
  have due : EventDue s g p tag Marks.platformStart Geometry.p0 := ⟨on, configured, found, fresh, there⟩
  refine ⟨fun done => ?_, fun e sub newest fails => ?_, fun e w grams newest weighing judged => ?_⟩
  · cases newest : s.weigh.platform.getLast? with
    | none => rw [platformStart_alone due moving newest, startMarked, mark_eq]; rfl
    | some e =>
      rw [platformStart_behind due moving newest, closeEntry_done _ _ _ (done e newest), startMarked, mark_eq]
      rfl
  · rw [platformStart_behind due moving newest, closeEntry_fails (startMarked s tag) g fails, startMarked,
      mark_eq, entryDone_eq, failRecord_eq]
    rfl
  · have closed := closeEntry_weighs (startMarked s tag) g .shortWindow weighing judged
    refine ⟨_, platformStart_behind due moving newest, ?_, fun q foundQ => ?_, ?_⟩
    · rw [closed, entryDone_eq]
      simp
    · rw [mapWeigh_track, weighed_find (s := startMarked s tag) weighing judged (startMarked_find foundQ)]
      rfl
    · rw [closed]
      simp [entryDone_eq, startMarked, mark_eq]

/-- An entry after WINDOW_OPENING for a tag at a count of the belt (R29). -/
def openedEntry (g : Geometry) (c : Count) (tag : Nat) (e : PlatformEntry) : PlatformEntry :=
  if e.tag = tag ∧ e.phase = .waiting ∧
      (∃ t, e.trail = some t ∧ reached c (t + BitVec.ofNat 32 (g.p0 + g.settleDistance)) = true)
    then { e with phase := .weighing .opened } else e

theorem windowOpening_eq {s : State} {g : Settings} (tag : Nat) (on : s.powered = true)
    (configured : s.pacing.settings = some g) :
    exec (.windowOpening tag) s = .next { s with weigh := { s.weigh with
      platform := s.weigh.platform.map (openedEntry g.geometry s.io.encoder tag) } } := by
  change execWindowOpening tag s = _
  simp only [execWindowOpening, live_powered s on, configured, State.mapWeigh, Weigh.update]
  congr 4
  funext e
  obtain ⟨etag, lead, trail, phase⟩ := e
  cases trail with
  | none => cases phase <;> simp [openedEntry]
  | some t => cases phase <;> simp [openedEntry, after]; split <;> simp_all

/-- The entry leaves the list at a count of the belt: its trail has passed the platform end (R27). -/
def leaves (g : Geometry) (c : Count) (tag : Nat) (e : PlatformEntry) : Prop :=
  e.tag = tag ∧ ∃ t, e.trail = some t ∧ reached c (t + BitVec.ofNat 32 g.p1 + 1) = true

/-- The entries left by PLATFORM_LEAVING (R27). -/
theorem platformLeaving_entries {s : State} {g : Settings} (tag : Nat) (on : s.powered = true)
    (configured : s.pacing.settings = some g) :
    ∃ l, exec (.platformLeaving tag) s = .next { s with weigh := { s.weigh with platform := l } } ∧
      l.Sublist s.weigh.platform ∧
      ∀ e, e ∈ l ↔ e ∈ s.weigh.platform ∧ ¬ leaves g.geometry s.io.encoder tag e := by
  have stepped : exec (.platformLeaving tag) s = execPlatformLeaving tag s := rfl
  simp only [execPlatformLeaving, live_powered s on, configured, State.mapWeigh] at stepped
  refine ⟨_, stepped, List.filter_sublist, fun e => ?_⟩
  rw [List.mem_filter]
  refine and_congr_right fun _ => ?_
  rw [Bool.not_eq_true', ← Bool.not_eq_true, Bool.and_eq_true, beq_iff_eq, leaves]
  refine not_congr (and_congr_right fun _ => ?_)
  cases h : e.trail with
  | none => simp only [reduceCtorEq, Bool.false_eq_true, false_and, exists_false]
  | some t => simp only [passed, after, Option.some.injEq, exists_eq_left']

/-- Settles O25: the opening maps the entries, the leaving filters them, and the end closes one by its phase. -/
theorem platformEntriesOpenCloseAndLeave : Obligations.PlatformEntriesOpenCloseAndLeave := by
  refine ⟨fun s g tag on configured => ?_, fun s g tag on configured => ?_,
    fun s g p e tag on configured found fresh there entry => ?_⟩
  · refine ⟨_, windowOpening_eq tag on configured, List.length_map _, fun n e at_n => ?_⟩
    rw [List.getElem?_map, at_n]
    rfl
  · exact platformLeaving_entries tag on configured
  have due : EventDue s g p tag Marks.platformEnd Geometry.p1 := ⟨on, configured, found, fresh, there⟩
  obtain rfl : e.tag = tag := by simpa using List.find?_some entry
  refine ⟨fun done => ?_, fun sub fails => ?_, fun w grams weighing judged => ?_⟩
  · rw [platformEnd_closes due entry, closeEntry_done _ _ _ done, endMarked, mark_eq]
  · rw [platformEnd_closes due entry, closeEntry_fails (endMarked s e.tag) g fails, endMarked, mark_eq, entryDone_eq,
      failRecord_eq]
    have records := onTag_onTag e.tag (failed sub)
      (fun q => { q with marks := { q.marks with platformEnd := true } }) s.track.records (fun _ => rfl)
    exact congrArg (fun l => Host.Outcome.next (State.settle
      { s with
        track := { s.track with records := l },
        weigh := { s.weigh with
          platform := onEntry e.tag (fun x => { x with phase := .done }) s.weigh.platform } })) records
  · have closed := closeEntry_weighs (endMarked s e.tag) g .overlong weighing judged
    have marked := endMarked_find found
    refine ⟨_, platformEnd_closes due entry, ?_, ?_, ?_, ?_, ?_⟩
    · rw [closed, entryDone_eq]
      simp
    · rw [weighed_find (s := endMarked s e.tag) weighing judged marked]
      simp [complete_iff]
    · rw [closed, becomeReady_others]
      simp [others_update, endMarked_others]
    · rw [weighed_queue (s := endMarked s e.tag) weighing judged marked]
      simp [complete_iff, endMarked, mark_eq]
    · rw [closed]
      simp [entryDone_eq, endMarked, mark_eq]

/-! ### The judgement of a window (R32) -/

/-- Steps begun are the quotient rounded up. -/
theorem stepsOf_eq_ceil (x d : Nat) (h : 0 < d) : -(-(x : Int) / (d : Int)) = (stepsOf x d : Int) := by
  have whole := Nat.div_add_mod (x + d - 1) d
  have left := Nat.mod_lt (x + d - 1) h
  have rounded : -(x : Int) / (d : Int) = -(stepsOf x d : Int) := by
    rw [Int.ediv_eq_iff_of_pos (by omega), Int.neg_mul, Int.mul_comm, stepsOf, ← Int.natCast_mul]
    generalize d * ((x + d - 1) / d) = m at *
    omega
  omega

/-- The net weight of a window (R32): its mean less the zero offset, in tenths of a gram over 160 times its
count, rounded up to whole grams. -/
def netWeight (w : Window) (zeroSum : Nat) : Int :=
  -((-((16 * w.sum : Nat) : Int) + ((w.count * zeroSum : Nat) : Int)) / ((160 * w.count : Nat) : Int))

theorem netWeight_nonpos_iff (w : Window) (zeroSum : Nat) (some_taken : 1 ≤ w.count) :
    netWeight w zeroSum ≤ 0 ↔ 16 * w.sum ≤ w.count * zeroSum := by
  have whole : 0 ≤ (-((16 * w.sum : Nat) : Int) + ((w.count * zeroSum : Nat) : Int)) /
      ((160 * w.count : Nat) : Int) ↔
      0 ≤ -((16 * w.sum : Nat) : Int) + ((w.count * zeroSum : Nat) : Int) := by
    rw [Int.le_ediv_iff_mul_le (by omega), Int.zero_mul]
  rw [netWeight]
  omega

theorem netWeight_eq_stepsOf (w : Window) (zeroSum : Nat) (some_taken : 1 ≤ w.count)
    (above : w.count * zeroSum < 16 * w.sum) :
    netWeight w zeroSum = (stepsOf (16 * w.sum - w.count * zeroSum) (160 * w.count) : Int) := by
  rw [← stepsOf_eq_ceil _ _ (by omega), netWeight]
  congr 3
  omega

/-- The judgement as the rule's table of tests has it (R32). -/
theorem judge_eq (w : Window) (minSamples steadiness zeroSum : Nat) (some_taken : 1 ≤ w.count) :
    w.judge minSamples steadiness zeroSum =
      if w.count < minSamples then .error .shortWindow
      else if steadiness < w.greatest.getD 0 - w.least.getD 0 then .error .unsteady
      else if netWeight w zeroSum ≤ 0 then .error .zero
      else if 20000 < netWeight w zeroSum then .error .overweight
      else .ok (netWeight w zeroSum).toNat := by
  have positive := netWeight_nonpos_iff w zeroSum some_taken
  unfold Window.judge
  by_cases above : 16 * w.sum ≤ w.count * zeroSum
  · simp only [above, positive, if_true]
  · have net := netWeight_eq_stepsOf w zeroSum some_taken (by omega)
    have beyond : 20000 < netWeight w zeroSum ↔
        20000 < stepsOf (16 * w.sum - w.count * zeroSum) (160 * w.count) := by omega
    have grams : (netWeight w zeroSum).toNat = stepsOf (16 * w.sum - w.count * zeroSum) (160 * w.count) := by omega
    by_cases heavy : 20000 < stepsOf (16 * w.sum - w.count * zeroSum) (160 * w.count)
    · simp only [above, positive, beyond, heavy, if_true, if_false, Config.maxWeight]
    · simp only [above, positive, beyond, heavy, grams, if_false, Config.maxWeight]

/-! ### Scale samples (R26) -/

theorem attends_iff (l : Lane) : l.attends = true ↔ ¬ (l = .offLine ∨ l = .stopped) := by
  cases l <;> simp [Lane.attends]

theorem isOpen_iff (e : PlatformEntry) : e.isOpen = true ↔ ∃ w, e.phase = .weighing w := by
  cases h : e.phase <;> simp [PlatformEntry.isOpen, h]

theorem addSample_of_open (v : Nat) {e : PlatformEntry} {w : Window} (h : e.phase = .weighing w) :
    e.addSample v = { e with phase := .weighing (w.add v) } := by
  simp [PlatformEntry.addSample, h]

theorem addSample_of_closed (v : Nat) {e : PlatformEntry} (h : ¬ ∃ w, e.phase = .weighing w) :
    e.addSample v = e := by
  cases p : e.phase <;> simp_all [PlatformEntry.addSample]

section
variable {s : State} {g : Settings}

theorem scaleSample_unattended (v : Nat) (on : s.powered = true)
    (h : s.pacing.settings = none ∨ s.pacing.lane.attends = false) :
    exec (.scaleSample v) s = .next s := by
  change execScaleSample v s = _
  rw [execScaleSample, live_powered s on]
  rcases h with h | h
  · simp [h]
  · cases s.pacing.settings <;> simp [h]

theorem scaleSample_open (v : Nat) (on : s.powered = true) (configured : s.pacing.settings = some g)
    (attended : s.pacing.lane.attends = true) (opened : s.weigh.platform.any PlatformEntry.isOpen = true) :
    exec (.scaleSample v) s = .next { s with weigh := { s.weigh with
      platform := s.weigh.platform.map (PlatformEntry.addSample v) } } := by
  change execScaleSample v s = _
  rw [execScaleSample, live_powered s on]
  simp [configured, attended, opened, State.mapWeigh]

theorem scaleSample_empty (v : Nat) (on : s.powered = true) (configured : s.pacing.settings = some g)
    (attended : s.pacing.lane.attends = true) (empty : s.weigh.platform = []) :
    exec (.scaleSample v) s = .next (s.emptySample g v).settle := by
  change execScaleSample v s = _
  rw [execScaleSample, live_powered s on]
  simp [configured, attended, empty]

theorem scaleSample_between (v : Nat) (on : s.powered = true) (occupied : s.weigh.platform ≠ [])
    (closed : s.weigh.platform.any PlatformEntry.isOpen = false) :
    exec (.scaleSample v) s = .next s := by
  change execScaleSample v s = _
  rw [execScaleSample, live_powered s on]
  cases s.pacing.settings <;> simp [closed, occupied]

/-- With an entry on the platform list a sample leaves the zero history (R26, R32). -/
theorem scaleSample_occupied_zero (v : Nat) (on : s.powered = true) (occupied : s.weigh.platform ≠ []) :
    ∃ t, exec (.scaleSample v) s = .next t ∧ t.weigh.zero = s.weigh.zero := by
  cases configured : s.pacing.settings with
  | none => exact ⟨s, scaleSample_unattended v on (.inl configured), rfl⟩
  | some g =>
    cases attended : s.pacing.lane.attends with
    | false => exact ⟨s, scaleSample_unattended v on (.inr attended), rfl⟩
    | true =>
      cases opened : s.weigh.platform.any PlatformEntry.isOpen with
      | false => exact ⟨s, scaleSample_between v on occupied opened, rfl⟩
      | true => exact ⟨_, scaleSample_open v on configured attended opened, rfl⟩

end

/-- Settles O24: the judgement by `judge_eq`, the close by what `closeEntry` does to the entry and to its record. -/
theorem windowJudgedByRule : Obligations.WindowJudgedByRule := by
  refine ⟨fun w least greatest minSamples steadiness zeroSum low high some_taken => ?_,
    fun w minSamples steadiness zeroSum few => by simp [Window.judge, few],
    fun s g p e w zero on configured found fresh unaccepted there entry weighing history => ?_,
    fun s v on occupied => scaleSample_occupied_zero v on occupied⟩
  · rw [judge_eq w _ _ _ some_taken, low, high]
    rfl
  · have due : EventDue s g p e.tag Marks.platformEnd Geometry.p1 := ⟨on, configured, found, fresh, there⟩
    have marked := endMarked_find found
    have unit := closeEntry_weigh (endMarked s e.tag) g .overlong
      (e := e) (by simp [weighing])
    have zeroSum : zero.sum = (s.weigh.zero.getD []).sum := by rw [history]; rfl
    have kept : (s.entryDone e.tag).weigh.zero = some zero := by rw [entryDone_eq, history]
    have phases := entryDone_phases (endMarked s e.tag) e.tag
    rw [← unit] at phases
    rw [zeroSum]
    cases judged : w.judge g.minSamples g.steadiness ((s.weigh.zero.getD []).sum) with
    | ok grams =>
      exact ⟨_, _, platformEnd_closes due entry, weighed_find (s := endMarked s e.tag) weighing judged marked,
        unit ▸ kept, phases, rfl⟩
    | error sub =>
      refine ⟨_, _, platformEnd_closes due entry, failed_find (s := endMarked s e.tag) weighing judged marked,
        unit ▸ kept, phases, ?_⟩
      simp [failed, unaccepted]

/-! ### Drains (R154) -/

/-- The parts no drain changes: the track and weigh units and the status block. -/
def beltParts (s : State) : Track × Weigh × Status := (s.track, s.weigh, s.status)

section
variable (s : State)

@[simp] theorem mapPacing_beltParts (f : Pacing → Pacing) : beltParts (s.mapPacing f) = beltParts s := rfl
@[simp] theorem claim_beltParts (c : Claim) : beltParts (s.claim c) = beltParts s := rfl
@[simp] theorem askHoldings_beltParts (fresh : Bool) : beltParts (s.askHoldings fresh) = beltParts s := by
  unfold State.askHoldings; split <;> rfl
@[simp] theorem closeAsk_beltParts : beltParts s.closeAsk = beltParts s := by
  unfold State.closeAsk; split
  · exact askHoldings_beltParts _ _
  · rfl
@[simp] theorem openAsk_beltParts (amount timeout : Nat) :
    beltParts (s.openAsk amount timeout) = beltParts s := askHoldings_beltParts _ _
@[simp] theorem askingTest_beltParts : beltParts s.askingTest = beltParts s := by
  unfold State.askingTest
  split
  · split
    · split
      · exact openAsk_beltParts _ _ _
      · rfl
    · rfl
  · rfl
@[simp] theorem setLane_beltParts (new : Lane) : beltParts (s.setLane new) = beltParts s := by
  cases new <;> simp [State.setLane, Lane.moving]
@[simp] theorem drain_beltParts (scale head : Bool) : beltParts (s.drain scale head) = beltParts s := by
  unfold State.drain
  split
  · dsimp only
    split <;> simp [State.endDrain]
  · rfl
  · rfl

theorem drain_track (scale head : Bool) : (s.drain scale head).track = s.track :=
  congrArg Prod.fst (drain_beltParts s scale head)
theorem drain_weigh (scale head : Bool) : (s.drain scale head).weigh = s.weigh :=
  congrArg (fun x => x.2.1) (drain_beltParts s scale head)
theorem drain_status (scale head : Bool) : (s.drain scale head).status = s.status :=
  congrArg (fun x => x.2.2) (drain_beltParts s scale head)

@[simp] theorem setLane_lane (new : Lane) : (s.setLane new).pacing.lane = new := by
  rw [setLane_pacing]
  split <;> cases new <;> rfl

/-- A drain asked for in RUNNING with records on the track (R154). -/
theorem drain_running (scale head : Bool) (h : s.pacing.lane = .running) (carries : s.track.records ≠ []) :
    (s.drain scale head).pacing =
      { (s.setLane .draining).pacing with drainScale := scale, drainHead := head } := by
  have track : (s.setLane .draining).track = s.track := congrArg Prod.fst (setLane_beltParts s .draining)
  simp [State.drain, h, track, carries]

/-- A drain asked for in RUNNING with the track empty ends at once (R154). -/
theorem drain_running_empty (scale : Bool) (h : s.pacing.lane = .running) (empty : s.track.records = []) :
    (s.drain scale false).pacing.lane = .ready := by
  have track : (s.setLane .draining).track = s.track := congrArg Prod.fst (setLane_beltParts s .draining)
  simp [State.drain, h, track, empty, State.endDrain]

theorem drain_draining (scale head : Bool) (h : s.pacing.lane = .draining) :
    (s.drain scale head).pacing = { s.pacing with
      drainScale := s.pacing.drainScale || scale, drainHead := s.pacing.drainHead || head } := by
  simp [State.drain, h]

theorem drain_still (scale head : Bool) (h : s.pacing.lane.moving = false) : s.drain scale head = s := by
  unfold State.drain
  split <;> simp_all [Lane.moving]

end

/-! ### Zero tracking (R34, R35) -/

theorem zeroOut_iff (zeroSum reference : Nat) : zeroOut zeroSum reference = true ↔
    16 * reference + 3200 < zeroSum ∨ zeroSum + 3200 < 16 * reference := by
  rw [zeroOut, Bool.or_eq_true, decide_eq_true_iff, decide_eq_true_iff, Config.zeroDrift]
  omega

/-- The state that a zero history out of tolerance leaves before the drain it asks for: SCALE ZERO is current and
held (R35). -/
def drifted (s : State) (zero : List Nat) : State :=
  ({ s with weigh := { s.weigh with zero := some zero, scaleZero := true } } : State).raise .scaleZero

section
variable (s : State) (g : Settings) (v oldest : Nat) (rest : List Nat)

theorem emptySample_out (history : s.weigh.zero = some (oldest :: rest))
    (out : zeroOut (rest ++ [v]).sum g.referenceZero = true) :
    s.emptySample g v = (drifted s (rest ++ [v])).drain true false := by
  simp only [State.emptySample, State.mapWeigh, history, Option.map_some, List.drop_succ_cons, List.drop_zero,
    zeroSum_eq_sum, Option.getD_some, out, if_true, drifted]

theorem emptySample_within (history : s.weigh.zero = some (oldest :: rest))
    (within : zeroOut (rest ++ [v]).sum g.referenceZero = false) :
    s.emptySample g v =
      { s with weigh := { s.weigh with zero := some (rest ++ [v]), scaleZero := false } } := by
  simp only [State.emptySample, State.mapWeigh, history, Option.map_some, List.drop_succ_cons, List.drop_zero,
    zeroSum_eq_sum, Option.getD_some, within, Bool.false_eq_true, if_false]

end

/-- A sample filed to the one open window of the list (R29). -/
theorem addSample_only_open (v : Nat) {before later : List PlatformEntry} {e : PlatformEntry} {w : Window}
    (opened : e.phase = .weighing w) (alone : ∀ x ∈ before ++ later, ¬ ∃ w, x.phase = .weighing w) :
    (before ++ e :: later).map (PlatformEntry.addSample v) =
      before ++ { e with phase := .weighing (w.add v) } :: later := by
  have same (l : List PlatformEntry) (sub : ∀ x ∈ l, x ∈ before ++ later) :
      l.map (PlatformEntry.addSample v) = l :=
    (List.map_congr_left (g := id) fun x mem => addSample_of_closed v (alone x (sub x mem))).trans (List.map_id l)
  rw [List.map_append, List.map_cons, addSample_of_open v opened,
    same before (fun x mem => List.mem_append_left _ mem), same later (fun x mem => List.mem_append_right _ mem)]

/-- Settles O26: one case of the sample each; an empty platform's by the test of the new zero offset. -/
theorem scaleSampleFiledByPlatform : Obligations.ScaleSampleFiledByPlatform := by
  intro s v on
  refine ⟨fun h => ?_, fun g before later e w configured moving list opened alone => ?_,
    fun g oldest rest configured moving empty history => ?_, fun g _ occupied closed => ?_⟩
  · refine scaleSample_unattended v on (h.imp_right fun still => ?_)
    rwa [← Bool.not_eq_true, attends_iff, Classical.not_not]
  · rw [scaleSample_open v on configured ((attends_iff _).2 moving), list, addSample_only_open v opened alone]
    · cases low : w.least <;> cases high : w.greatest <;> simp [Window.add, low, high]
    · simp [list, isOpen_iff, opened]
  · have sampled := scaleSample_empty v on configured ((attends_iff _).2 moving) empty
    intro sum out
    have out_iff : zeroOut sum g.referenceZero = true ↔ out := zeroOut_iff sum g.referenceZero
    cases tested : zeroOut sum g.referenceZero with
    | false =>
      have within : ¬ out := by simp [← out_iff, tested]
      rw [emptySample_within s g v oldest rest history tested] at sampled
      refine ⟨_, sampled, rfl, ?_, empty, rfl, rfl, fun o => absurd o within, fun _ => ⟨rfl, rfl⟩,
        fun o => absurd o within, fun o => absurd o within, fun o => absurd o within, fun o => absurd o within⟩
      simp [within]
    | true =>
      have beyond : out := out_iff.1 tested
      rw [emptySample_out s g v oldest rest history tested] at sampled
      let d := drifted s (rest ++ [v])
      refine ⟨_, sampled, ?_, ?_, ?_, store_of_fixed (drain_fixed d true false), ?_, ?_,
        fun n => absurd beyond n, fun _ lane carries => ?_, fun _ lane bare => drain_running_empty d true lane bare,
        fun _ lane => ?_, fun _ lane => ?_⟩
      · rw [drain_weigh, drifted, raise_weigh]
      · simp [drain_weigh, drifted, beyond]
      · rw [drain_weigh, drifted, raise_weigh, empty]
      · rw [drain_track, drifted, raise_track]
      · rw [drain_status]
        exact fun _ => raise_holds _ .scaleZero
      · rw [drain_running d true false lane carries]
        simp
      · rw [drain_draining d true false lane]
        simp [d, drifted]
      · have still : d.pacing.lane.moving = false := by
          rcases lane with lane | lane <;> simp [d, drifted, lane, Lane.moving]
        rw [drain_still d true false still]
        rfl
  · refine scaleSample_between v on occupied (List.any_eq_false.2 fun e mem => ?_)
    rw [isOpen_iff]
    exact closed e mem

/-! ### Bar messages (R36, R37, R173) -/

theorem ofBytes_cons (b : Byte) (bs : List Byte) :
    ofBytes (b :: bs) = b.toNat * 256 ^ bs.length + ofBytes bs := by
  rw [← List.singleton_append, ofBytes_append]
  simp [ofBytes]

/-- The low bytes of a number do not see what stands above them. -/
theorem be_add_mul (n a v : Nat) : be n (a * 256 ^ n + v) = be n v := by
  induction n generalizing a with
  | zero => rfl
  | succ n ih =>
    have parts : a * 256 ^ (n + 1) + v = v + a * 256 * 256 ^ n := by
      rw [Nat.pow_succ, Nat.mul_comm (256 ^ n) 256, ← Nat.mul_assoc, Nat.add_comm]
    have low : be n (v + a * 256 * 256 ^ n) = be n v := by rw [Nat.add_comm, ih]
    rw [parts, be, be, low, Nat.add_mul_div_right _ _ (Nat.pow_pos (by decide))]
    congr 1
    exact BitVec.eq_of_toNat_eq (by simp)

/-- A byte string is the bytes of the number it spells (R169). -/
theorem be_ofBytes (bs : List Byte) : be bs.length (ofBytes bs) = bs := by
  induction bs with
  | nil => rfl
  | cons b bs ih =>
    have small : ofBytes bs < 256 ^ bs.length := by
      rw [← ih, ofBytes_be, be_length]
      exact Nat.mod_lt _ (Nat.pow_pos (by decide))
    rw [List.length_cons, be, ofBytes_cons, be_add_mul, ih, Nat.add_comm,
      Nat.add_mul_div_right _ _ (Nat.pow_pos (by decide)), Nat.div_eq_of_lt small]
    simp

/-- Fields of a byte string are the bytes of their numbers (R169). -/
theorem be_num (bs : List Byte) (i n : Nat) (h : i + n ≤ bs.length) : be n (num bs i n) = (bs.drop i).take n := by
  have taken : ((bs.drop i).take n).length = n := by simp; omega
  have spelled := be_ofBytes ((bs.drop i).take n)
  rwa [taken] at spelled

/-- The bytes of a reading (R173). -/
def readingBytes (width thickness : Nat) : List Byte := be 1 0x01 ++ be 2 width ++ be 2 thickness

theorem barPort_reading (width thickness : Nat) (w : width < 65536) (t : thickness < 65536) :
    barPort (readingBytes width thickness) = some (.barReading width thickness) := by
  have code : num (readingBytes width thickness) 0 1 = 1 := by
    rw [readingBytes, List.append_assoc, num_front _ (by decide)]
  have first : num (readingBytes width thickness) 1 2 = width := by
    rw [readingBytes, List.append_assoc, num_skip _ _ 1 _ (be_length 1 _)]
    exact num_front _ (decide_eq_true w)
  have second : num (readingBytes width thickness) 3 2 = thickness := by
    rw [readingBytes, num_skip _ _ 3 _ (by simp), ← List.append_nil (be 2 thickness)]
    exact num_front _ (decide_eq_true t)
  have length : (readingBytes width thickness).length = 5 := by simp [readingBytes]
  simp [barPort, code, length, first, second]

/-- A message of five bytes with the code of a reading spells one. -/
theorem reading_of_code {bs : List Byte} (code : num bs 0 1 = 1) (length : bs.length = 5) :
    bs = readingBytes (num bs 1 2) (num bs 3 2) := by
  have whole : bs = bs.take 1 ++ (bs.drop 1).take 2 ++ (bs.drop 3).take 2 := by
    match bs, length with
    | [_, _, _, _, _], _ => rfl
  have head : be 1 (num bs 0 1) = bs.take 1 := be_num bs 0 1 (by omega)
  rw [code] at head
  rw [readingBytes, head, be_num bs 1 2 (by omega), be_num bs 3 2 (by omega)]
  exact whole

theorem barPort_other {bs : List Byte} (reading : ∀ width thickness, bs ≠ readingBytes width thickness)
    (noRead : bs ≠ be 1 0x02) : barPort bs = none := by
  unfold barPort
  split
  · rename_i code length
    exact absurd (reading_of_code code length) (reading _ _)
  · rename_i code length
    have spelled := be_num bs 0 1 (by omega)
    rw [code, List.drop_zero, List.take_of_length_le (by omega)] at spelled
    exact absurd spelled.symm noRead
  · rfl

/-- What a reading sets on its record (R36, R175). -/
def readBy (width thickness : Nat) (p : Piece) : Piece :=
  if width ≤ 6000 ∧ thickness ≤ 6000 then { p with width := some width, thickness := some thickness } else p

theorem readBy_tag (width thickness : Nat) (p : Piece) : (readBy width thickness p).tag = p.tag := by
  unfold readBy; split <;> rfl

section
variable {s : State}

theorem barReading_moving (width thickness : Nat) (on : s.powered = true) (moving : s.pacing.lane.moving = true) :
    exec (.barReading width thickness) s = .next (s.barMessage (readBy width thickness)) := by
  change execBarReading width thickness s = _
  rw [execBarReading, live_powered s on, moving, onlyIf_true]
  rfl

theorem barNoRead_moving (on : s.powered = true) (moving : s.pacing.lane.moving = true) :
    exec .barNoRead s = .next (s.barMessage (fun p => p)) := by
  change execBarNoRead s = _
  rw [execBarNoRead, live_powered s on, moving, onlyIf_true]

theorem barReading_still (width thickness : Nat) (on : s.powered = true) (still : s.pacing.lane.moving = false) :
    exec (.barReading width thickness) s = .next s := by
  change execBarReading width thickness s = _
  rw [execBarReading, live_powered s on, still, onlyIf_false]

theorem barNoRead_still (on : s.powered = true) (still : s.pacing.lane.moving = false) :
    exec .barNoRead s = .next s := by
  change execBarNoRead s = _
  rw [execBarNoRead, live_powered s on, still, onlyIf_false]

theorem barMessage_unbound (f : Piece → Piece) (empty : s.weigh.barQueue = []) : s.barMessage f =
    { s with weigh := { s.weigh with unboundBar := min 65535 (s.weigh.unboundBar + 1) } } := by
  simp [State.barMessage, empty, State.mapWeigh, Config.counterTop]

theorem barMessage_bound (f : Piece → Piece) {tag : Nat} {rest : List Nat} (queue : s.weigh.barQueue = tag :: rest) :
    s.barMessage f = State.settle
      ((({ s with weigh := { s.weigh with barQueue := rest } } : State).setRecord tag f).becomeReady tag) := by
  simp [State.barMessage, queue, State.mapWeigh]

/-- A message that sets nothing on an incomplete record only takes its tag from the queue (R37). -/
theorem barMessage_unread (f : Piece → Piece) {tag : Nat} {rest : List Nat} {p : Piece}
    (queue : s.weigh.barQueue = tag :: rest) (found : s.track.find tag = some p) (same : ∀ q, f q = q)
    (incomplete : p.complete = false) :
    s.barMessage f = State.settle { s with weigh := { s.weigh with barQueue := rest } } := by
  have unset (t : State) : t.setRecord tag f = t := by
    simp [State.setRecord, State.mapTrack, update_eq_onTag, onTag_unchanged tag f _ same]
  rw [barMessage_bound f queue, unset]
  exact congrArg State.settle (becomeReady_incomplete _ tag found incomplete)

end

/-- Settles O27: the bytes by reading them back, a bar message by the head of the bar queue. -/
theorem barMessagesBindInOrder : Obligations.BarMessagesBindInOrder := by
  refine ⟨⟨barPort_reading, by decide, fun message => barPort_other⟩, fun s on => ⟨?_, ?_, ?_, ?_⟩⟩
  · intro g p tag configured found fresh there
    have due : EventDue s g p tag Marks.bar Geometry.bar := ⟨on, configured, found, fresh, there⟩
    change execBarEvent tag s = _
    rw [execBarEvent, live_powered s on, atEvent_due due, mark_eq]
    rfl
  · exact fun width thickness still => ⟨barReading_still width thickness on still, barNoRead_still on still⟩
  · intro width thickness moving empty
    rw [barReading_moving width thickness on moving, barNoRead_moving on moving, barMessage_unbound _ empty,
      barMessage_unbound _ empty]
    exact ⟨rfl, rfl⟩
  · intro tag rest p moving queue found
    refine ⟨fun width thickness w t => ?_, fun width thickness above incomplete => ?_⟩
    · have read : readBy width thickness p = { p with width := some width, thickness := some thickness } :=
        if_pos ⟨w, t⟩
      have bound : (({ s with weigh := { s.weigh with barQueue := rest } } : State).setRecord tag
          (readBy width thickness)).track.find tag = some (readBy width thickness p) :=
        find_update_same _ (readBy_tag width thickness) found
      refine ⟨_, (barReading_moving width thickness on moving).trans
        (congrArg _ (barMessage_bound _ queue)), ?_, ?_, ?_, ?_, ?_⟩
      · simp
      · rw [becomeReady_find _ tag bound, read]
        simp [complete_iff]
      · rw [becomeReady_others]
        exact others_update _ _ _ (readBy_tag width thickness)
      · rw [becomeReady_queue _ tag bound, read]
        simp [complete_iff]
      · simp
    · have unread (q : Piece) : readBy width thickness q = q := if_neg (by omega)
      rw [barReading_moving width thickness on moving, barNoRead_moving on moving,
        barMessage_unread _ queue found unread incomplete, barMessage_unread _ queue found (fun _ => rfl) incomplete]
      exact ⟨rfl, rfl⟩

end Sys2Proof.Proofs.Weighing
end

section
/-! SUPPORT. The print window's end and the print head (chapter 6): the messages and their bytes, the records and the
armed list under HEAD FAULT, said once, and the statements about them. -/

namespace Sys2Proof.Proofs.PrintHead
open Sys2Proof Sys2Proof.Machine Sys2Proof.Proofs.Weighing

/-! ### Messages from the head (R173, R175) -/

/-- The bytes of PRINT DONE (R173). -/
def doneBytes (piece : Nat) : List Byte := be 1 0x13 ++ be 4 piece

/-- The bytes of PRINT FAULT (R173). -/
def faultBytes (piece cause : Nat) : List Byte := be 1 0x14 ++ be 4 piece ++ be 1 cause

theorem headPort_done (piece : Nat) (fit : piece < 2 ^ 32) :
    headPort (doneBytes piece) = some (.printDone piece) := by
  have code : num (doneBytes piece) 0 1 = 0x13 := num_front _ (by decide)
  have number : num (doneBytes piece) 1 4 = piece := by
    rw [doneBytes, num_skip _ _ 1 _ (be_length 1 _), ← List.append_nil (be 4 piece)]
    exact num_front _ (decide_eq_true fit)
  have length : (doneBytes piece).length = 5 := by simp [doneBytes]
  simp [headPort, code, length, number]

theorem headPort_fault (piece cause : Nat) (fit : piece < 2 ^ 32) (byte : cause < 256) :
    headPort (faultBytes piece cause) = some (.printFault piece cause) := by
  have code : num (faultBytes piece cause) 0 1 = 0x14 := by
    rw [faultBytes, List.append_assoc, num_front _ (by decide)]
  have number : num (faultBytes piece cause) 1 4 = piece := by
    rw [faultBytes, List.append_assoc, num_skip _ _ 1 _ (be_length 1 _)]
    exact num_front _ (decide_eq_true fit)
  have reason : num (faultBytes piece cause) 5 1 = cause := by
    rw [faultBytes, num_skip _ _ 5 _ (by simp), ← List.append_nil (be 1 cause)]
    exact num_front _ (decide_eq_true byte)
  have length : (faultBytes piece cause).length = 6 := by simp [faultBytes]
  simp [headPort, code, length, number, reason]

/-- A message of one byte is its code. -/
theorem message_of_code {bs : List Byte} (length : bs.length = 1) : bs = be 1 (num bs 0 1) := by
  rw [be_num bs 0 1 (by omega), List.drop_zero, List.take_of_length_le (by omega)]

theorem done_of_code {bs : List Byte} (code : num bs 0 1 = 0x13) (length : bs.length = 5) :
    bs = doneBytes (num bs 1 4) := by
  rw [doneBytes, ← code, be_num bs 0 1 (by omega), be_num bs 1 4 (by omega), List.drop_zero,
    List.take_of_length_le (l := bs.drop 1) (by simp [length]), List.take_append_drop]

theorem fault_of_code {bs : List Byte} (code : num bs 0 1 = 0x14) (length : bs.length = 6) :
    bs = faultBytes (num bs 1 4) (num bs 5 1) := by
  have whole : bs = bs.take 1 ++ (bs.drop 1).take 4 ++ (bs.drop 5).take 1 := by
    match bs, length with
    | [_, _, _, _, _, _], _ => rfl
  rw [faultBytes, ← code, be_num bs 0 1 (by omega), be_num bs 1 4 (by omega), be_num bs 5 1 (by omega)]
  exact whole

theorem headPort_other {bs : List Byte} (ready : bs ≠ be 1 0x11) (notReady : bs ≠ be 1 0x12)
    (done : ∀ piece, bs ≠ doneBytes piece) (fault : ∀ piece cause, bs ≠ faultBytes piece cause) :
    headPort bs = none := by
  unfold headPort
  split
  · rename_i code length
    exact absurd (code ▸ message_of_code length) ready
  · rename_i code length
    exact absurd (code ▸ message_of_code length) notReady
  · rename_i code length
    exact absurd (done_of_code code length) (done _)
  · rename_i code length
    exact absurd (fault_of_code code length) (fault _ _)
  · rfl

/-! ### Messages to the head (R99, R169, R173) -/

theorem shown_eq_optBytes (n : Nat) (v : Option Nat) : shown n 0 v = optBytes n v := by
  cases v <;> rfl

theorem shown_eq_postageBytes (v : Option Nat) : shown 3 0xFFFFFF v = postageBytes v := by
  cases v <;> rfl

theorem shownDate_eq_optDateBytes (d : Option Date) : shownDate d = optDateBytes d := by
  cases d <;> rfl

theorem optDateBytes_length (d : Option Date) : (optDateBytes d).length = 3 := by
  cases d <;> simp [optDateBytes, dateBytes]

theorem covered_length (i : Imprint) : i.covered.length = 19 := by
  simp [Imprint.covered, optDateBytes_length, postageBytes, optBytes]

theorem abort_bytes (piece : Nat) : (HeadMessage.abort piece).bytes = be 1 0x02 ++ be 4 piece := rfl

theorem imprint_bytes (i : Imprint) :
    (HeadMessage.imprint i).bytes = be 1 0x01 ++ i.covered ++ be 2 i.check.toNat := by
  rw [List.append_assoc]
  rfl

/-! ### The end of the print window (R102) -/

theorem endOfPrintWindow_due {s : State} {g : Settings} {p : Piece} {tag : Nat}
    (due : EventDue s g p tag Marks.windowEnd (fun g => g.print + g.window)) :
    exec (.endOfPrintWindow tag) s = .next
      (let marked := s.mark tag (fun m => { m with windowEnd := true })
      if p.state = .armed then
        marked.mapPrint (fun q => { q with armed := q.armed.map (fun a =>
          if a.tag = tag ∧ a.provisional = none then { a with provisional := some .noPrint } else a) })
      else marked) := by
  change execEndOfPrintWindow tag s = _
  rw [execEndOfPrintWindow, live_powered s due.on, atEvent_due due]
  simp only [Bool.and_eq_true, beq_iff_eq, Option.isNone_iff_eq_none]

/-! ### The head's messages (R94, R103, R104) -/

section
variable {s : State}

theorem headReady_powered (on : s.powered = true) :
    exec .headReady s = .next
      { s with print := { s.print with
        headReady := true,
        headFault := if s.track.records = [] then false else s.print.headFault } } := by
  change execHeadReady s = _
  rw [execHeadReady, live_powered s on, State.headFaultEnd]
  by_cases empty : s.track.records = []
  · simp [empty, State.mapPrint]
  · simp [empty, State.mapPrint]

theorem headNotReady_powered (on : s.powered = true) :
    exec .headNotReady s = .next { s with print := { s.print with headReady := false } } := by
  change execHeadNotReady s = _
  rw [execHeadNotReady, live_powered s on]
  rfl

theorem entryOf_eq_none {piece : Nat} (out : ∀ x ∈ s.print.printing, x.piece ≠ piece) :
    s.print.entryOf piece = none := by
  simpa [Print.entryOf] using out

theorem printDone_listed {piece : Nat} {e : Printing} (on : s.powered = true)
    (listed : s.print.entryOf piece = some e) :
    exec (.printDone piece) s =
      .next ((s.endPrinting piece).setRecord e.tag (fun q => { q with state := .printed })) := by
  change execPrintDone piece s = _
  rw [execPrintDone, live_powered s on]
  simp only [listed]

theorem printDone_unlisted {piece : Nat} (on : s.powered = true) (unlisted : s.print.entryOf piece = none) :
    exec (.printDone piece) s = .next s := by
  change execPrintDone piece s = _
  rw [execPrintDone, live_powered s on]
  simp only [unlisted]

theorem printFault_unlisted {piece : Nat} (code : Nat) (on : s.powered = true)
    (unlisted : s.print.entryOf piece = none) : exec (.printFault piece code) s = .next s := by
  change execPrintFault piece code s = _
  rw [execPrintFault, live_powered s on]
  cases HeadCause.ofCode code <;> simp only [unlisted]

theorem printFault_unknown (piece : Nat) {code : Nat} (on : s.powered = true)
    (unknown : HeadCause.ofCode code = none) : exec (.printFault piece code) s = .next s := by
  change execPrintFault piece code s = _
  rw [execPrintFault, live_powered s on]
  simp only [unknown]

theorem printFault_listed {piece code : Nat} {cause : HeadCause} {e : Printing} {p : Piece}
    (on : s.powered = true) (known : HeadCause.ofCode code = some cause)
    (listed : s.print.entryOf piece = some e) (found : s.track.find e.tag = some p) :
    exec (.printFault piece code) s = .next
      (((s.endPrinting piece).spoil p (.printFault cause)).raiseHeadFault piece (.head cause)).settle := by
  have still : (s.endPrinting piece).track.find e.tag = some p := found
  change execPrintFault piece code s = _
  rw [execPrintFault, live_powered s on]
  simp only [known, listed, still]

end

theorem ofCode_outside {code : Nat} (h : code = 0 ∨ 3 < code) : HeadCause.ofCode code = none := by
  unfold HeadCause.ofCode
  split
  · omega
  · omega
  · omega
  · rfl

/-- Settles O33: each message by its bytes or by its command, the window's end by the state of its record. -/
theorem printWindowEndAndHeadMessages : Obligations.PrintWindowEndAndHeadMessages := by
  refine ⟨⟨by decide, by decide, headPort_done, headPort_fault, fun message => headPort_other⟩,
    fun i => ?_, abort_bytes, fun s g p tag on configured found fresh there => ?_, fun s on => ?_⟩
  · simp only [shownDate_eq_optDateBytes, shown_eq_postageBytes, shown_eq_optBytes]
    exact ⟨covered_length i, imprint_bytes i, rfl⟩
  · have due : EventDue s g p tag Marks.windowEnd (fun g => g.print + g.window) :=
      ⟨on, configured, found, fresh, there⟩
    rw [endOfPrintWindow_due due, mark_eq]
    exact ⟨fun armed => by rw [if_pos armed]; rfl, fun other => by rw [if_neg other]⟩
  · refine ⟨headReady_powered on, headNotReady_powered on, fun piece e listed => ?_,
      fun piece cause out => ?_, fun piece cause outside => printFault_unknown piece on (ofCode_outside outside)⟩
    · rw [printDone_listed on listed, State.setRecord, State.mapTrack, update_eq_onTag]
      rfl
    · have unlisted := entryOf_eq_none out
      exact ⟨printDone_unlisted on unlisted, printFault_unlisted cause on unlisted⟩

/-! ### Records of some tags changed -/

/-- Records with `f` made on every record whose tag is among some. -/
def onTags (tags : List Nat) (f : Piece → Piece) (l : List Piece) : List Piece :=
  l.map (fun q => if q.tag ∈ tags then f q else q)

/-- A record SPOILED with a cause (R107). -/
def spoiledBy (cause : SpoilCause) (q : Piece) : Piece := { q with reason := some (.spoiled cause) }

/-- A record SPOILED HEAD FAULT with its imprint discarded (R105 step 4). -/
def discarded (q : Piece) : Piece := { q with imprint := none, reason := some (.spoiled .headFault) }

theorem mem_onTags {tags : List Nat} {f : Piece → Piece} {l : List Piece} {q : Piece} :
    q ∈ onTags tags f l ↔ ∃ r ∈ l, (if r.tag ∈ tags then f r else r) = q := List.mem_map

theorem onTags_nil (f : Piece → Piece) (l : List Piece) : onTags [] f l = l := by
  simp [onTags]

/-- One tag's records changed, and then those of more tags, by a change that does no more when made again. -/
theorem onTags_onTag (tag : Nat) (tags : List Nat) {f : Piece → Piece} (l : List Piece)
    (keeps : ∀ q, (f q).tag = q.tag) (again : ∀ q, f (f q) = f q) :
    onTags tags f (onTag tag f l) = onTags (tag :: tags) f l := by
  unfold onTags onTag
  rw [List.map_map]
  refine List.map_congr_left fun q _ => ?_
  by_cases same : q.tag = tag
  · simp [same, keeps, again]
  · simp [same]

/-- The record found by a tag that is not among those changed. -/
theorem find_onTags_other {tags : List Nat} {f : Piece → Piece} {l : List Piece} {tag : Nat}
    (keeps : ∀ q, (f q).tag = q.tag) (other : tag ∉ tags) :
    (onTags tags f l).find? (fun q => q.tag == tag) = l.find? (fun q => q.tag == tag) := by
  induction l with
  | nil => rfl
  | cons q l ih =>
    unfold onTags at ih ⊢
    rw [List.map_cons, List.find?_cons, List.find?_cons, ih]
    by_cases among : q.tag ∈ tags
    · have differs : (q.tag == tag) = false := beq_false_of_ne fun e => other (e ▸ among)
      simp [among, keeps, differs]
    · simp [among]

/-! ### What a fold over the records' tags leaves -/

section
variable {α : Type} (g : State → α → State) (tag : α → Nat) {f : Piece → Piece}

theorem foldl_records (keeps : ∀ q, (f q).tag = q.tag) (again : ∀ q, f (f q) = f q)
    (one : ∀ s x, (g s x).track.records = onTag (tag x) f s.track.records) (l : List α) (s : State) :
    (l.foldl g s).track.records = onTags (l.map tag) f s.track.records := by
  induction l generalizing s with
  | nil => exact (onTags_nil f _).symm
  | cons x l ih => rw [List.foldl_cons, ih, one, onTags_onTag _ _ _ keeps again, List.map_cons]

/-- A fold of steps that add to the journal queue adds to it. -/
theorem foldl_queue (one : ∀ s x, s.funds.queue <+: (g s x).funds.queue) (l : List α) (s : State) :
    s.funds.queue <+: (l.foldl g s).funds.queue := by
  induction l generalizing s with
  | nil => exact List.prefix_refl _
  | cons x l ih => exact (one s x).trans (ih _)

end

/-! ### Imprints aborted (R105 step 3) -/

/-- What the spoiling of pieces leaves alone: the pacing unit, the status block and the reserved tally. -/
def aside (s : State) : Pacing × Status × Nat := (s.pacing, s.status, s.funds.reserved)

section
variable (s : State) (e : Printing)

theorem abortPrinting_of_found {p : Piece} (found : s.track.find e.tag = some p) :
    s.abortPrinting e = (s.sendHead (.abort e.piece)).spoil p .headFault := by
  have still : (s.sendHead (.abort e.piece)).track.find e.tag = some p := found
  simp only [State.abortPrinting, still]

theorem abortPrinting_of_gone (gone : s.track.find e.tag = none) :
    s.abortPrinting e = s.sendHead (.abort e.piece) := by
  have still : (s.sendHead (.abort e.piece)).track.find e.tag = none := gone
  simp only [State.abortPrinting, still]

theorem spoil_records (p : Piece) (cause : SpoilCause) :
    (s.spoil p cause).track.records = onTag p.tag (spoiledBy cause) s.track.records := by
  simp only [State.spoil, State.offer, mapFunds_track, setRecord_track, update_eq_onTag]
  rfl

theorem abortPrinting_records :
    (s.abortPrinting e).track.records = onTag e.tag (spoiledBy .headFault) s.track.records := by
  cases found : s.track.find e.tag with
  | some p =>
    rw [abortPrinting_of_found s e found, spoil_records, tag_of_find found]
    rfl
  | none =>
    rw [abortPrinting_of_gone s e found]
    have absent : ∀ q ∈ s.track.records, q.tag ≠ e.tag := by simpa [Track.find] using found
    refine ((List.map_congr_left (g := id) fun q mem => ?_).trans (List.map_id _)).symm
    exact if_neg (absent q mem)

theorem abortPrinting_queue : s.funds.queue <+: (s.abortPrinting e).funds.queue := by
  cases found : s.track.find e.tag with
  | some p =>
    rw [abortPrinting_of_found s e found]
    exact List.prefix_append _ _
  | none =>
    rw [abortPrinting_of_gone s e found]
    exact List.prefix_refl _

theorem abortPrinting_aside : aside (s.abortPrinting e) = aside s := by
  cases found : s.track.find e.tag with
  | some p => rw [abortPrinting_of_found s e found]; rfl
  | none => rw [abortPrinting_of_gone s e found]; rfl

theorem abortPrinting_print :
    (s.abortPrinting e).print = { s.print with headOut := s.print.headOut ++ [.abort e.piece] } := by
  cases found : s.track.find e.tag with
  | some p => rw [abortPrinting_of_found s e found]; rfl
  | none => rw [abortPrinting_of_gone s e found]; rfl

theorem abortAll_print (l : List Printing) :
    (l.foldl State.abortPrinting s).print =
      { s.print with headOut := s.print.headOut ++ l.map (fun x => .abort x.piece) } := by
  induction l generalizing s with
  | nil => simp
  | cons x l ih => rw [List.foldl_cons, ih, abortPrinting_print, List.append_assoc]; rfl

end

/-! ### DEBITED records spoiled (R105 step 4) -/

/-- The records under HEAD FAULT: those of the imprints out SPOILED, then every DEBITED one without an outcome SPOILED
with its imprint discarded (R105 steps 3 and 4). -/
def recordsUnderFault (out : List Printing) (records : List Piece) : List Piece :=
  let left := onTags (out.map Printing.tag) (spoiledBy .headFault) records
  onTags ((left.filter Piece.awaitsPrint).map Piece.tag) discarded left

/-- An armed entry under HEAD FAULT: its outcome is SPOILED HEAD FAULT unless it holds another (R105 step 5). -/
def armedUnderFault (a : Armed) : Armed :=
  if a.provisional.isNone then { a with provisional := some .headFault } else a

theorem armedUnderFault_provisional (a : Armed) : (armedUnderFault a).provisional ≠ none := by
  unfold armedUnderFault
  split
  · simp
  · rename_i held
    exact fun absent => held (by rw [absent]; rfl)

/-- The state when the imprints out are aborted and off the printing list (R105 step 3). -/
def aborted (s : State) : State :=
  (s.print.printing.foldl State.abortPrinting s).mapPrint (fun p => { p with printing := [] })

/-- A record SPOILED HEAD FAULT, its imprint discarded unsent (R105 step 4). -/
def discardAndSpoil (s : State) (p : Piece) : State := (s.discardImprint p.tag).spoil p .headFault

/-- The state when the DEBITED records without an outcome are spoiled too (R105 step 4). -/
def swept (s : State) : State :=
  ((aborted s).track.records.filter Piece.awaitsPrint).foldl discardAndSpoil (aborted s)

section
variable (s : State)

theorem spoilForHeadFault_eq : s.spoilForHeadFault =
    (swept s).mapPrint (fun p => { p with armed := p.armed.map armedUnderFault }) := rfl

theorem aborted_records : (aborted s).track.records =
    onTags (s.print.printing.map Printing.tag) (spoiledBy .headFault) s.track.records :=
  foldl_records State.abortPrinting Printing.tag (f := spoiledBy .headFault) (fun _ => rfl) (fun _ => rfl)
    abortPrinting_records _ _

theorem aborted_aside : aside (aborted s) = aside s :=
  foldl_keeps State.abortPrinting aside abortPrinting_aside _ _

theorem discardAndSpoil_records (p : Piece) :
    (discardAndSpoil s p).track.records = onTag p.tag discarded s.track.records := by
  rw [discardAndSpoil, spoil_records, State.discardImprint, setRecord_track, update_eq_onTag]
  exact onTag_onTag _ _ _ _ (fun _ => rfl)

theorem swept_records :
    (swept s).track.records = recordsUnderFault s.print.printing s.track.records := by
  rw [recordsUnderFault, ← aborted_records]
  exact foldl_records discardAndSpoil Piece.tag (f := discarded) (fun _ => rfl) (fun _ => rfl)
    discardAndSpoil_records _ _

theorem swept_print : (swept s).print = { s.print with
    printing := [],
    headOut := s.print.headOut ++ s.print.printing.map (fun x => .abort x.piece) } := by
  have kept : (swept s).print = (aborted s).print := foldl_keeps discardAndSpoil State.print (fun _ _ => rfl) _ _
  rw [kept, aborted, mapPrint_print, abortAll_print]

theorem swept_aside : aside (swept s) = aside s :=
  (foldl_keeps discardAndSpoil aside (fun _ _ => rfl) _ _).trans (aborted_aside s)

theorem swept_queue : s.funds.queue <+: (swept s).funds.queue := by
  have first : s.funds.queue <+: (aborted s).funds.queue := foldl_queue _ abortPrinting_queue _ s
  exact first.trans (foldl_queue discardAndSpoil (fun _ _ => List.prefix_append _ _) _ _)

end

/-! ### What becomes of records under HEAD FAULT -/

section
variable {out : List Printing} {records : List Piece}

theorem recordsUnderFault_ne_nil (carries : records ≠ []) : recordsUnderFault out records ≠ [] := by
  simpa [recordsUnderFault, onTags] using carries

theorem hasOutcome_of_debited {q : Piece} (debited : q.state = .debited) (settled : q.awaitsPrint = false) :
    q.hasOutcome = true := by
  simpa [Piece.awaitsPrint, debited] using settled

theorem reason_of_hasOutcome {q : Piece} (h : q.hasOutcome = true) : q.reason ≠ none := by
  intro absent
  simp [Piece.hasOutcome, absent] at h

/-- The record of a tag with no imprint out, all of whose records have outcomes, stands as it was. -/
theorem find_recordsUnderFault {tag : Nat} (settled : ∀ q ∈ records, q.tag = tag → q.hasOutcome = true)
    (other : tag ∉ out.map Printing.tag) :
    (recordsUnderFault out records).find? (fun q => q.tag == tag) = records.find? (fun q => q.tag == tag) := by
  rw [recordsUnderFault, find_onTags_other (f := discarded) (fun _ => rfl) ?unswept,
    find_onTags_other (f := spoiledBy .headFault) (fun _ => rfl) other]
  intro among
  obtain ⟨l, mem, rfl⟩ := List.mem_map.1 among
  obtain ⟨left, awaits⟩ := List.mem_filter.1 mem
  obtain ⟨r, held, rfl⟩ := mem_onTags.1 left
  by_cases spoiled : r.tag ∈ out.map Printing.tag
  · rw [if_pos spoiled] at other
    exact other spoiled
  · rw [if_neg spoiled] at settled awaits
    simp [Piece.awaitsPrint, settled r held rfl] at awaits

/-- No DEBITED record stays without an outcome (R105 step 4). -/
theorem debited_under_fault {q : Piece} (mem : q ∈ recordsUnderFault out records) (debited : q.state = .debited) :
    q.reason ≠ none := by
  obtain ⟨l, left, rfl⟩ := mem_onTags.1 mem
  by_cases among : l.tag ∈ ((onTags (out.map Printing.tag) (spoiledBy .headFault) records).filter
      Piece.awaitsPrint).map Piece.tag
  · rw [if_pos among]
    exact nofun
  · rw [if_neg among] at debited ⊢
    refine reason_of_hasOutcome (hasOutcome_of_debited debited ?_)
    rw [← Bool.not_eq_true]
    exact fun awaits => among (List.mem_map_of_mem (List.mem_filter.2 ⟨left, awaits⟩))

/-- Every record of the tag of a DEBITED one without an outcome is SPOILED, its imprint discarded (R105 step 4). -/
theorem awaiting_under_fault {o q : Piece} (held : o ∈ records) (awaits : o.awaitsPrint = true)
    (other : o.tag ∉ out.map Printing.tag) (mem : q ∈ recordsUnderFault out records) (same : q.tag = o.tag) :
    q.reason = some (.spoiled .headFault) ∧ q.imprint = none := by
  have left : o ∈ onTags (out.map Printing.tag) (spoiledBy .headFault) records :=
    mem_onTags.2 ⟨o, held, if_neg other⟩
  have among := List.mem_map_of_mem (f := Piece.tag) (List.mem_filter.2 ⟨left, awaits⟩)
  obtain ⟨l, -, rfl⟩ := mem_onTags.1 mem
  split at same
  · rw [if_pos ‹_›]
    exact ⟨rfl, rfl⟩
  · rw [← same] at among
    contradiction

end

/-! ### What a drain leaves (R154) -/

/-- The state without what a change of lane state touches: the pacing unit, the link engine, the credit unit and the
arbiter. -/
def offLane (s : State) : State :=
  { s with
    pacing := State.reset.pacing, link := State.reset.link, credit := State.reset.credit,
    funds := { s.funds with arbiter := .free } }

section
variable (s : State)

@[simp] theorem mapPacing_offLane (f : Pacing → Pacing) : offLane (s.mapPacing f) = offLane s := rfl
@[simp] theorem mapCredit_offLane (f : Credit → Credit) : offLane (s.mapCredit f) = offLane s := rfl
@[simp] theorem claim_offLane (c : Claim) : offLane (s.claim c) = offLane s := by
  unfold State.claim State.mapFunds
  dsimp only
  split <;> rfl
@[simp] theorem askHoldings_offLane (fresh : Bool) : offLane (s.askHoldings fresh) = offLane s := by
  unfold State.askHoldings
  split <;> rfl
@[simp] theorem closeAsk_offLane : offLane s.closeAsk = offLane s := by
  unfold State.closeAsk
  split
  · exact askHoldings_offLane _ _
  · rfl
@[simp] theorem openAsk_offLane (amount timeout : Nat) : offLane (s.openAsk amount timeout) = offLane s :=
  askHoldings_offLane _ _
@[simp] theorem askingTest_offLane : offLane s.askingTest = offLane s := by
  unfold State.askingTest
  (repeat' split) <;> simp
@[simp] theorem setLane_offLane (new : Lane) : offLane (s.setLane new) = offLane s := by
  cases new <;> simp [State.setLane, Lane.moving]
@[simp] theorem drain_offLane (scale head : Bool) : offLane (s.drain scale head) = offLane s := by
  unfold State.drain
  split
  · dsimp only
    split <;> simp [State.endDrain]
  · rfl
  · rfl

end

/-! ### The HEAD FAULT condition raised (R105) -/

theorem mem_holdFault_of_absent (f : StickyFault) {l : List StickyFault} (absent : ∀ g ∈ l, g.order ≠ f.order) :
    f ∈ holdFault f l := by
  induction l with
  | nil => exact List.mem_singleton_self f
  | cons g l ih =>
    have differs : f.order ≠ g.order := fun e => absent g List.mem_cons_self e.symm
    have later := ih fun x mem => absent x (List.mem_cons_of_mem g mem)
    rw [holdFault, if_neg differs]
    split
    · exact List.mem_cons_self
    · exact List.mem_cons_of_mem g later

/-- The state with the condition raised and no piece spoiled yet (R105 steps 1 and 2). -/
def conditionRaised (s : State) (piece : Nat) (cause : HeadFaultCause) : State :=
  (s.raise (.headFault piece cause)).mapPrint (fun p =>
    { p with headFault := true, headReady := p.headReady && p.headFault })

section
variable (s : State) (piece : Nat) (cause : HeadFaultCause)

theorem raiseHeadFault_again (current : s.print.headFault = true) :
    s.raiseHeadFault piece cause = (conditionRaised s piece cause).spoilForHeadFault := by
  have kept : { s.print with headFault := true, headReady := s.print.headReady && s.print.headFault } = s.print := by
    cases h : s.print
    simp_all
  have same : conditionRaised s piece cause = s.raise (.headFault piece cause) :=
    congrArg (fun p => { s.raise (.headFault piece cause) with print := p }) kept
  simp [State.raiseHeadFault, current, same]

theorem raiseHeadFault_first (absent : s.print.headFault = false) :
    s.raiseHeadFault piece cause = (conditionRaised s piece cause).spoilForHeadFault.drain false true := by
  simp [State.raiseHeadFault, absent, conditionRaised, State.mapPrint, State.raise]

theorem raiseHeadFault_offLane :
    offLane (s.raiseHeadFault piece cause) = offLane (conditionRaised s piece cause).spoilForHeadFault := by
  cases h : s.print.headFault with
  | true => rw [raiseHeadFault_again s piece cause h]
  | false => rw [raiseHeadFault_first s piece cause h, drain_offLane]

theorem raiseHeadFault_records : (s.raiseHeadFault piece cause).track.records =
    recordsUnderFault s.print.printing s.track.records :=
  (congrArg (fun t => t.track.records) (raiseHeadFault_offLane s piece cause)).trans
    (swept_records (conditionRaised s piece cause))

theorem raiseHeadFault_queue : s.funds.queue <+: (s.raiseHeadFault piece cause).funds.queue := by
  have queue : (s.raiseHeadFault piece cause).funds.queue = (swept (conditionRaised s piece cause)).funds.queue :=
    congrArg (fun t => t.funds.queue) (raiseHeadFault_offLane s piece cause)
  rw [queue]
  exact swept_queue (conditionRaised s piece cause)

theorem raiseHeadFault_print : (s.raiseHeadFault piece cause).print =
    { s.print with
      headReady := s.print.headReady && s.print.headFault,
      headFault := true,
      armed := s.print.armed.map armedUnderFault,
      printing := [],
      headOut := s.print.headOut ++ s.print.printing.map (fun x => .abort x.piece) } := by
  change (offLane (s.raiseHeadFault piece cause)).print = _
  rw [raiseHeadFault_offLane]
  change (conditionRaised s piece cause).spoilForHeadFault.print = _
  rw [spoilForHeadFault_eq, mapPrint_print, swept_print]
  rfl

theorem spoilForHeadFault_aside : aside s.spoilForHeadFault = aside s := swept_aside s

theorem raiseHeadFault_status :
    (s.raiseHeadFault piece cause).status = s.status.raise (.headFault piece cause) :=
  (congrArg State.status (raiseHeadFault_offLane s piece cause)).trans
    (congrArg (fun x => x.2.1) (spoilForHeadFault_aside (conditionRaised s piece cause)))

theorem raiseHeadFault_reserved : (s.raiseHeadFault piece cause).funds.reserved = s.funds.reserved :=
  (congrArg (fun t => t.funds.reserved) (raiseHeadFault_offLane s piece cause)).trans
    (congrArg (fun x => x.2.2) (spoilForHeadFault_aside (conditionRaised s piece cause)))

theorem spoiled_pacing : (conditionRaised s piece cause).spoilForHeadFault.pacing = s.pacing :=
  congrArg Prod.fst (spoilForHeadFault_aside (conditionRaised s piece cause))

/-- The first raising in RUNNING drains the lane for the head (R105 step 6, R154). -/
theorem raiseHeadFault_running (absent : s.print.headFault = false) (lane : s.pacing.lane = .running)
    (carries : s.track.records ≠ []) : (s.raiseHeadFault piece cause).pacing.lane = .draining ∧
      (s.raiseHeadFault piece cause).pacing.drainHead = true := by
  have records : (conditionRaised s piece cause).spoilForHeadFault.track.records ≠ [] := by
    rw [spoilForHeadFault_eq, mapPrint_track, swept_records]
    exact recordsUnderFault_ne_nil carries
  rw [raiseHeadFault_first s piece cause absent,
    drain_running _ false true (by rw [spoiled_pacing, lane]) records]
  simp

/-- The first raising in a drain gives it the head mark (R154). -/
theorem raiseHeadFault_draining (absent : s.print.headFault = false) (lane : s.pacing.lane = .draining) :
    (s.raiseHeadFault piece cause).pacing = { s.pacing with drainHead := true } := by
  rw [raiseHeadFault_first s piece cause absent, drain_draining _ false true (by rw [spoiled_pacing, lane]),
    spoiled_pacing]
  simp

theorem raiseHeadFault_still (h : s.print.headFault = true ∨ s.pacing.lane.moving = false) :
    (s.raiseHeadFault piece cause).pacing = s.pacing := by
  cases current : s.print.headFault with
  | true => rw [raiseHeadFault_again s piece cause current, spoiled_pacing]
  | false =>
    have still : s.pacing.lane.moving = false := h.resolve_left (by simp [current])
    rw [raiseHeadFault_first s piece cause current, drain_still _ false true (by rw [spoiled_pacing, still]),
      spoiled_pacing]

end

/-! ### PRINT FAULT (R104) -/

/-- The state when the piece of a PRINT FAULT is off the printing list and SPOILED (R104). -/
def faulted (s : State) (piece : Nat) (p : Piece) (cause : HeadCause) : State :=
  (s.endPrinting piece).spoil p (.printFault cause)

theorem hasOutcome_of_faulted {s : State} {piece : Nat} {p q : Piece} {cause : HeadCause}
    (mem : q ∈ (faulted s piece p cause).track.records) (same : q.tag = p.tag) : q.hasOutcome = true := by
  rw [faulted, spoil_records] at mem
  obtain ⟨r, -, rfl⟩ := List.mem_map.1 mem
  by_cases h : r.tag = p.tag
  · rw [if_pos h]; rfl
  · rw [if_neg h] at same; exact absurd same h

theorem find_faulted (s : State) (piece : Nat) {p : Piece} (cause : HeadCause)
    (found : s.track.find p.tag = some p) :
    (faulted s piece p cause).track.find p.tag = some (spoiledBy (.printFault cause) p) :=
  find_update_same _ (fun _ => rfl) found

theorem mem_faulted_of_other {s : State} (piece : Nat) {p o : Piece} (cause : HeadCause)
    (held : o ∈ s.track.records) (other : o.tag ≠ p.tag) : o ∈ (faulted s piece p cause).track.records := by
  rw [faulted, spoil_records]
  exact List.mem_map.2 ⟨o, held, if_neg other⟩

theorem ofCode_named {code : Nat} {cause : HeadCause}
    (h : (code = 1 ∧ cause = .inkOut) ∨ (code = 2 ∧ cause = .headJam) ∨ (code = 3 ∧ cause = .overTemperature)) :
    HeadCause.ofCode code = some cause := by
  rcases h with ⟨rfl, rfl⟩ | ⟨rfl, rfl⟩ | ⟨rfl, rfl⟩ <;> rfl

/-- Settles O34: the piece spoiled first, then what raising the condition does to the state that leaves. -/
theorem printFaultRaisesHeadFault : Obligations.PrintFaultRaisesHeadFault := by
  intro s piece code cause e p on named listed found alone
  have tag : p.tag = e.tag := tag_of_find found
  let t := faulted s piece p cause
  have listed_mem : e ∈ s.print.printing := List.mem_of_find?_eq_some listed
  have off : e.tag ∉ t.print.printing.map Printing.tag := by
    rintro mem
    obtain ⟨x, out, same⟩ := List.mem_map.1 mem
    obtain ⟨x_listed, differs⟩ := List.mem_filter.1 out
    exact alone x x_listed (by simpa using differs) same
  have records := raiseHeadFault_records t piece (.head cause)
  have print := raiseHeadFault_print t piece (.head cause)
  have status := raiseHeadFault_status t piece (.head cause)
  refine ⟨t.raiseHeadFault piece (.head cause), printFault_listed on (ofCode_named named) listed found,
    ?_, ?_, ?_, ?_, ?_, ?_, ?_, ?_, ?_, ?_, ?_, ?_, ?_, ?_, ?_, ?_⟩
  · have stands : (t.raiseHeadFault piece (.head cause)).track.find e.tag = t.track.find e.tag := by
      rw [Track.find, records]
      exact find_recordsUnderFault (fun q mem same => hasOutcome_of_faulted mem (same.trans tag.symm)) off
    rw [stands, ← tag, find_faulted s piece cause (tag ▸ found)]
    rfl
  · have queue : t.funds.queue = s.funds.queue ++ [.spoiled e.tag p.pieceNumber (.printFault cause) p.facts] := by
      rw [← tag]
      rfl
    have first := List.prefix_iff_eq_take.1 (raiseHeadFault_queue t piece (.head cause))
    rw [queue, List.length_append, List.length_singleton] at first
    exact first.symm
  · rw [print]
  · rw [print]
    rfl
  · rw [print]
  · intro absent
    rw [print]
    simp [t, faulted, State.spoil, State.offer, State.endPrinting, absent]
  · rw [status]
    exact raise_holds t (.headFault piece (.head cause))
  · intro absent
    rw [status]
    refine mem_holdFault_of_absent _ fun g mem same => ?_
    have held : s.status.holds 9 = true := List.any_eq_true.2 ⟨g, mem, beq_iff_eq.2 same⟩
    rw [absent] at held
    contradiction
  · intro q mem
    rw [records] at mem
    exact debited_under_fault mem
  · intro a mem
    rw [print] at mem
    obtain ⟨b, -, rfl⟩ := List.mem_map.1 mem
    exact armedUnderFault_provisional b
  · intro q mem _ other o held debited waiting
    have same : o.tag = q.tag := tag_of_find held
    rw [records] at mem
    refine awaiting_under_fault (o := o) ?_ (by simp [Piece.awaitsPrint, debited, waiting]) ?_ mem same.symm
    · refine mem_faulted_of_other piece cause (List.mem_of_find?_eq_some held) fun shared => ?_
      exact other e listed_mem (tag.symm.trans (shared.symm.trans same))
    · intro out
      obtain ⟨x, x_out, x_tag⟩ := List.mem_map.1 out
      exact other x (List.mem_filter.1 x_out).1 (x_tag.trans same)
  · intro absent lane
    refine raiseHeadFault_running t piece _ absent lane fun empty => ?_
    have still := find_faulted s piece cause (tag ▸ found)
    rw [Track.find, empty] at still
    contradiction
  · exact fun absent lane => raiseHeadFault_draining t piece _ absent lane
  · exact fun h => raiseHeadFault_still t piece _ h
  · exact store_of_fixed (raiseHeadFault_fixed t piece (.head cause))
  · exact raiseHeadFault_reserved t piece (.head cause)

end Sys2Proof.Proofs.PrintHead
end
